-- ==== Sys2Proof/Word.lean ====
section
/-! DEFINITION. The word types of the FIRE block (spec 00_scope.md R8, R9): heat cells and colour
components are 8 bits, palette entries and pixels 16, registers and system addresses 32.
Bit 0 is the least significant bit throughout (R9). -/

namespace Sys2Proof

/-- u8: a heat value, a colour component, one byte of system memory. -/
abbrev Byte := BitVec 8

/-- u16: a palette entry, a pixel, MULT or DIV. -/
abbrev Half := BitVec 16

/-- u32: a register of the window, or a system byte address (R8, R23). -/
abbrev Word := BitVec 32

end Sys2Proof
end

