-- ==== Sys2Proof/Syntax.lean ====
section
/-! DEFINITION. The operations of the FIRE block, whole: one constructor of `Instr` for every row of
spec/opcode_table.json (7 commands of format CMD, 43 host operations of format MMIO), the raw bus
transactions that carry them (30_encoding.md R70, R74), and the commands of R71. -/

namespace Sys2Proof

/-- The width of a bus access (R55, R74). `other` is any width but 8, 16 or 32 bits: the platform bus
may offer one, and the block answers it with an error response. -/
inductive Width
  | w8
  | w16
  | w32
  | other (bytes : Nat)
deriving DecidableEq, Repr

/-- An access to a reserved offset, in either direction (R74: bit 17 is not in the mask of those rows).
A read carries no data. -/
inductive RsvAccess
  | read
  | write (data : Word)
deriving DecidableEq, Repr

/-- The commands of R71. -/
inductive Command
  | nop
  | init
  | clear
  | buildPal
  | step
  | render
  | effect
deriving DecidableEq, Repr

/-- A bus transaction as it reaches the slave port, in one of the two formats of 30_encoding.md. `cmd w`
is format CMD (R70): a legal 32-bit host write of `w` to CMD. `mmio key width data` is format MMIO
(R74): an 18-bit key, bit 17 the direction and bits 16:0 the window offset, with the size and the write
data outside the key (`data` means nothing on a read). -/
inductive Txn
  | cmd (word : Word)
  | mmio (key : BitVec 18) (width : Width) (data : Word)
deriving DecidableEq, Repr

/-- The instructions: one constructor per row of spec/opcode_table.json, in the table's order. The
data of a write is its 32 data lines, of which an access of n bytes uses bits 8n-1:0 (R52). -/
inductive Instr
  -- format CMD
  | nop
  | init
  | clear
  | buildPal
  | step
  | render
  | effect
  -- format MMIO: registers
  | rdId (w : Width)
  | wrId (w : Width) (v : Word)
  | rdGeom (w : Width)
  | wrGeom (w : Width) (v : Word)
  | rdCmd (w : Width)
  | wrCmd (w : Width) (v : Word)
  | rdStatus (w : Width)
  | wrStatus (w : Width) (v : Word)
  | rdIrqEn (w : Width)
  | wrIrqEn (w : Width) (v : Word)
  | rdParam (w : Width)
  | wrParam (w : Width) (v : Word)
  | rdDstBase (w : Width)
  | wrDstBase (w : Width) (v : Word)
  | rdDstPitch (w : Width)
  | wrDstPitch (w : Width) (v : Word)
  | rdDstDepth (w : Width)
  | wrDstDepth (w : Width) (v : Word)
  | rdLastErr (w : Width)
  | wrLastErr (w : Width) (v : Word)
  | rdFaultAddr (w : Width)
  | wrFaultAddr (w : Width) (v : Word)
  | rdConvHsl (w : Width)
  | conv (w : Width) (v : Word)
  | rdConvRgb (w : Width)
  | wrConvRgb (w : Width) (v : Word)
  | rdConvPix (w : Width)
  | wrConvPix (w : Width) (v : Word)
  -- format MMIO: the palette window (index = offset bits 9:2) and the grid window (offset bits 15:0)
  | rdPal (index : Byte) (w : Width)
  | wrPal (index : Byte) (w : Width) (v : Word)
  | rdGrid (off : BitVec 16) (w : Width)
  | wrGrid (off : BitVec 16) (w : Width) (v : Word)
  -- format MMIO: reserved offsets, each with the offset bits its row leaves free
  | rsv0002C (w : Width) (a : RsvAccess)
  | rsv0003C (w : Width) (a : RsvAccess)
  | rsv00040 (off : BitVec 6) (w : Width) (a : RsvAccess)
  | rsv00080 (off : BitVec 7) (w : Width) (a : RsvAccess)
  | rsv00100 (off : BitVec 8) (w : Width) (a : RsvAccess)
  | rsv00200 (off : BitVec 9) (w : Width) (a : RsvAccess)
  | rsv00800 (off : BitVec 11) (w : Width) (a : RsvAccess)
  | rsv01000 (off : BitVec 12) (w : Width) (a : RsvAccess)
  | rsv02000 (off : BitVec 13) (w : Width) (a : RsvAccess)
  | rsv04000 (off : BitVec 14) (w : Width) (a : RsvAccess)
  | rsv08000 (off : BitVec 15) (w : Width) (a : RsvAccess)
deriving DecidableEq, Repr

end Sys2Proof
end

