-- ==== Sys2Proof/WellFormed.lean ====
section
/-! DEFINITION. Well-formed instructions: those that stand for exactly one bus transaction. Every field
of `Instr` has the width of the bits it stands for, so one check is left: the width of an access has one
spelling, and `Width.other` is none of 1, 2 and 4 bytes (R55, R74). Whether the width and the offset are
LEGAL (R55) is no matter of form: an illegal access is a transaction too, and it has its meaning, the
error response (Machine/Operands.lean). -/

namespace Sys2Proof

/-- A width is spelled in one way: 1, 2 and 4 bytes are `w8`, `w16` and `w32`. -/
def Width.wellFormed : Width → Bool
  | .other n => n != 1 && n != 2 && n != 4
  | _ => true

/-- The access width an instruction carries; a command is a 32-bit write (R70). -/
def Instr.width : Instr → Width
  | .nop | .init | .clear | .buildPal | .step | .render | .effect => .w32
  | .rdId w | .wrId w _ | .rdGeom w | .wrGeom w _ | .rdCmd w | .wrCmd w _ => w
  | .rdStatus w | .wrStatus w _ | .rdIrqEn w | .wrIrqEn w _ | .rdParam w | .wrParam w _ => w
  | .rdDstBase w | .wrDstBase w _ | .rdDstPitch w | .wrDstPitch w _ => w
  | .rdDstDepth w | .wrDstDepth w _ | .rdLastErr w | .wrLastErr w _ => w
  | .rdFaultAddr w | .wrFaultAddr w _ | .rdConvHsl w | .conv w _ => w
  | .rdConvRgb w | .wrConvRgb w _ | .rdConvPix w | .wrConvPix w _ => w
  | .rdPal _ w | .wrPal _ w _ | .rdGrid _ w | .wrGrid _ w _ => w
  | .rsv0002C w _ | .rsv0003C w _ => w
  | .rsv00040 _ w _ | .rsv00080 _ w _ | .rsv00100 _ w _ | .rsv00200 _ w _ => w
  | .rsv00800 _ w _ | .rsv01000 _ w _ | .rsv02000 _ w _ | .rsv04000 _ w _ | .rsv08000 _ w _ => w

/-- The one check of an instruction's form. -/
def Instr.wellFormed (i : Instr) : Bool := i.width.wellFormed

end Sys2Proof
end

