-- ==== Sys2Proof/Decode.lean ====
section
/-! DEFINITION. Decoding (30_encoding.md R70 to R77): total on every bus transaction, rejecting by name;
the encoder, written from the same tables; and spec/opcode_table.json's own match and mask of every MMIO
row, as data. -/

namespace Sys2Proof

/-- Why a transaction is no instruction. -/
inductive DecodeError
  /-- The word written to CMD is illegal: bits 31:4 not 0, or OP 7 to 15 (R75, R76). -/
  | illegalCommand (word : Word)
  /-- The key matches no row of the table: a misaligned offset in the register space or the palette
  window, which R55 makes an illegal access (assumption log 16). -/
  | noRow (key : BitVec 18)
deriving DecidableEq, Repr

/-- The opcode of a command (R71). -/
def Command.opcode : Command → BitVec 4
  | .nop => 0x0
  | .init => 0x1
  | .clear => 0x2
  | .buildPal => 0x3
  | .step => 0x4
  | .render => 0x5
  | .effect => 0x6

/-- The command an opcode selects; 0x7 to 0xF select none (R71, R76). -/
def Command.ofOpcode (op : BitVec 4) : Option Command :=
  match op.toNat with
  | 0 => some .nop
  | 1 => some .init
  | 2 => some .clear
  | 3 => some .buildPal
  | 4 => some .step
  | 5 => some .render
  | 6 => some .effect
  | _ => none

/-- The field OP of a CMD word, bits 3:0 (R70). -/
def cmdOp (v : Word) : BitVec 4 := v.extractLsb' 0 4

/-- The field RSV of a CMD word, bits 31:4 (R70). -/
def cmdRsv (v : Word) : BitVec 28 := v.extractLsb' 4 28

/-- The command a CMD word names: none where the word is illegal (R75). -/
def Command.ofWord (v : Word) : Option Command :=
  if cmdRsv v = 0 then Command.ofOpcode (cmdOp v) else none

/-- The instruction of format CMD that stands for a command. -/
def Command.instr : Command → Instr
  | .nop => .nop
  | .init => .init
  | .clear => .clear
  | .buildPal => .buildPal
  | .step => .step
  | .render => .render
  | .effect => .effect

/-- Decoding of a CMD word (R75). -/
def decodeCmd (v : Word) : Except DecodeError Instr :=
  match Command.ofWord v with
  | some c => .ok c.instr
  | none => .error (.illegalCommand v)

/-- The registers and reserved words below offset 0x040 (R23). -/
def decodeRegister (key : BitVec 18) (isWrite : Bool) (w : Width) (v : Word) (a : RsvAccess) :
    Except DecodeError Instr :=
  match (key.extractLsb' 0 6).toNat with
  | 0x00 => .ok (if isWrite then .wrId w v else .rdId w)
  | 0x04 => .ok (if isWrite then .wrGeom w v else .rdGeom w)
  | 0x08 => .ok (if isWrite then .wrCmd w v else .rdCmd w)
  | 0x0C => .ok (if isWrite then .wrStatus w v else .rdStatus w)
  | 0x10 => .ok (if isWrite then .wrIrqEn w v else .rdIrqEn w)
  | 0x14 => .ok (if isWrite then .wrParam w v else .rdParam w)
  | 0x18 => .ok (if isWrite then .wrDstBase w v else .rdDstBase w)
  | 0x1C => .ok (if isWrite then .wrDstPitch w v else .rdDstPitch w)
  | 0x20 => .ok (if isWrite then .wrDstDepth w v else .rdDstDepth w)
  | 0x24 => .ok (if isWrite then .wrLastErr w v else .rdLastErr w)
  | 0x28 => .ok (if isWrite then .wrFaultAddr w v else .rdFaultAddr w)
  | 0x2C => .ok (.rsv0002C w a)
  | 0x30 => .ok (if isWrite then .conv w v else .rdConvHsl w)
  | 0x34 => .ok (if isWrite then .wrConvRgb w v else .rdConvRgb w)
  | 0x38 => .ok (if isWrite then .wrConvPix w v else .rdConvPix w)
  | 0x3C => .ok (.rsv0003C w a)
  | _ => .error (.noRow key)

/-- Decoding of an MMIO key (R74): bit 17 is the direction; the highest set bit of the offset chooses
the region of R23 and R50. -/
def decodeMmio (key : BitVec 18) (w : Width) (v : Word) : Except DecodeError Instr :=
  let isWrite := key.getLsbD 17
  let a : RsvAccess := if isWrite then .write v else .read
  if key.getLsbD 16 then
    .ok (if isWrite then .wrGrid (key.extractLsb' 0 16) w v else .rdGrid (key.extractLsb' 0 16) w)
  else if key.getLsbD 15 then .ok (.rsv08000 (key.extractLsb' 0 15) w a)
  else if key.getLsbD 14 then .ok (.rsv04000 (key.extractLsb' 0 14) w a)
  else if key.getLsbD 13 then .ok (.rsv02000 (key.extractLsb' 0 13) w a)
  else if key.getLsbD 12 then .ok (.rsv01000 (key.extractLsb' 0 12) w a)
  else if key.getLsbD 11 then .ok (.rsv00800 (key.extractLsb' 0 11) w a)
  else if key.getLsbD 10 then
    if key.extractLsb' 0 2 = 0 then
      .ok (if isWrite then .wrPal (key.extractLsb' 2 8) w v else .rdPal (key.extractLsb' 2 8) w)
    else .error (.noRow key)
  else if key.getLsbD 9 then .ok (.rsv00200 (key.extractLsb' 0 9) w a)
  else if key.getLsbD 8 then .ok (.rsv00100 (key.extractLsb' 0 8) w a)
  else if key.getLsbD 7 then .ok (.rsv00080 (key.extractLsb' 0 7) w a)
  else if key.getLsbD 6 then .ok (.rsv00040 (key.extractLsb' 0 6) w a)
  else decodeRegister key isWrite w v a

/-- Decoding of a bus transaction: total, rejecting by name (R74, R75). -/
def decode : Txn → Except DecodeError Instr
  | .cmd v => decodeCmd v
  | .mmio key w v => decodeMmio key w v

/-- The transaction whose bits are `w`, as spec/opcode_table.json numbers them: a row of format CMD has
32 bits, the CMD word; a row of format MMIO has the 18 bits of its key, 24 in whole bytes. The size and
the data lie outside the key (R74); in this layout their bits are 0, which stands for a 32-bit access
with data 0 (assumption log 18). -/
def Txn.ofTableWord (nbits w : Nat) : Option Txn :=
  if nbits ≤ 24 then
    if w < 2 ^ 18 then some (.mmio (BitVec.ofNat 18 w) .w32 0) else none
  else if w < 2 ^ 32 then some (.cmd (BitVec.ofNat 32 w))
  else none

/-- The instruction the decoder reads from an opcode-table word of `nbits` bits. -/
def decodeTableWord (nbits w : Nat) : Option Instr :=
  match Txn.ofTableWord nbits w with
  | some t =>
    match decode t with
    | .ok i => some i
    | .error _ => none
  | none => none

/-! ## The encoder -/

/-- The direction bit of a reserved access (R74 bit 17: 0 read, 1 write). -/
def RsvAccess.dir : RsvAccess → BitVec 1
  | .read => 0
  | .write _ => 1

/-- The write data of a reserved access; a read drives none, written as 0. -/
def RsvAccess.lines : RsvAccess → Word
  | .read => 0
  | .write v => v

/-- The key of a read of a register offset (R74). -/
def readKey (off : BitVec 17) : BitVec 18 := 0#1 ++ off

/-- The key of a write of a register offset (R74). -/
def writeKey (off : BitVec 17) : BitVec 18 := 1#1 ++ off

/-- The transaction of an instruction, from the command word of R71 or the key of R74 and the register
map of R23. -/
def encode : Instr → Txn
  | .nop => .cmd 0x00000000
  | .init => .cmd 0x00000001
  | .clear => .cmd 0x00000002
  | .buildPal => .cmd 0x00000003
  | .step => .cmd 0x00000004
  | .render => .cmd 0x00000005
  | .effect => .cmd 0x00000006
  | .rdId w => .mmio (readKey 0x000) w 0
  | .wrId w v => .mmio (writeKey 0x000) w v
  | .rdGeom w => .mmio (readKey 0x004) w 0
  | .wrGeom w v => .mmio (writeKey 0x004) w v
  | .rdCmd w => .mmio (readKey 0x008) w 0
  | .wrCmd w v => .mmio (writeKey 0x008) w v
  | .rdStatus w => .mmio (readKey 0x00C) w 0
  | .wrStatus w v => .mmio (writeKey 0x00C) w v
  | .rdIrqEn w => .mmio (readKey 0x010) w 0
  | .wrIrqEn w v => .mmio (writeKey 0x010) w v
  | .rdParam w => .mmio (readKey 0x014) w 0
  | .wrParam w v => .mmio (writeKey 0x014) w v
  | .rdDstBase w => .mmio (readKey 0x018) w 0
  | .wrDstBase w v => .mmio (writeKey 0x018) w v
  | .rdDstPitch w => .mmio (readKey 0x01C) w 0
  | .wrDstPitch w v => .mmio (writeKey 0x01C) w v
  | .rdDstDepth w => .mmio (readKey 0x020) w 0
  | .wrDstDepth w v => .mmio (writeKey 0x020) w v
  | .rdLastErr w => .mmio (readKey 0x024) w 0
  | .wrLastErr w v => .mmio (writeKey 0x024) w v
  | .rdFaultAddr w => .mmio (readKey 0x028) w 0
  | .wrFaultAddr w v => .mmio (writeKey 0x028) w v
  | .rdConvHsl w => .mmio (readKey 0x030) w 0
  | .conv w v => .mmio (writeKey 0x030) w v
  | .rdConvRgb w => .mmio (readKey 0x034) w 0
  | .wrConvRgb w v => .mmio (writeKey 0x034) w v
  | .rdConvPix w => .mmio (readKey 0x038) w 0
  | .wrConvPix w v => .mmio (writeKey 0x038) w v
  | .rdPal i w => .mmio (0b0_0000001#8 ++ i ++ 0b00#2) w 0
  | .wrPal i w v => .mmio (0b1_0000001#8 ++ i ++ 0b00#2) w v
  | .rdGrid off w => .mmio (0b01#2 ++ off) w 0
  | .wrGrid off w v => .mmio (0b11#2 ++ off) w v
  | .rsv0002C w a => .mmio (a.dir ++ 0x0002C#17) w a.lines
  | .rsv0003C w a => .mmio (a.dir ++ 0x0003C#17) w a.lines
  | .rsv00040 off w a => .mmio (a.dir ++ (0b00000000001#11 ++ off)) w a.lines
  | .rsv00080 off w a => .mmio (a.dir ++ (0b0000000001#10 ++ off)) w a.lines
  | .rsv00100 off w a => .mmio (a.dir ++ (0b000000001#9 ++ off)) w a.lines
  | .rsv00200 off w a => .mmio (a.dir ++ (0b00000001#8 ++ off)) w a.lines
  | .rsv00800 off w a => .mmio (a.dir ++ (0b000001#6 ++ off)) w a.lines
  | .rsv01000 off w a => .mmio (a.dir ++ (0b00001#5 ++ off)) w a.lines
  | .rsv02000 off w a => .mmio (a.dir ++ (0b0001#4 ++ off)) w a.lines
  | .rsv04000 off w a => .mmio (a.dir ++ (0b001#3 ++ off)) w a.lines
  | .rsv08000 off w a => .mmio (a.dir ++ (0b01#2 ++ off)) w a.lines

/-! ## The opcode table itself -/

/-- One row of format MMIO of spec/opcode_table.json. -/
structure MmioRow where
  mnemonic : String
  /-- The row's "match" over the 18-bit key. -/
  pattern : BitVec 18
  /-- The row's "mask" over the 18-bit key. -/
  mask : BitVec 18
deriving DecidableEq, Repr

/-- A key matches a row when it agrees with the row's pattern on the bits of the mask (R74). -/
def MmioRow.matchesKey (r : MmioRow) (key : BitVec 18) : Bool := key &&& r.mask == r.pattern

/-- The register rows of spec/opcode_table.json. -/
def registerRows : List MmioRow :=
  [ ⟨"RD_ID", 0x00000, 0x3FFFF⟩, ⟨"WR_ID", 0x20000, 0x3FFFF⟩,
    ⟨"RD_GEOM", 0x00004, 0x3FFFF⟩, ⟨"WR_GEOM", 0x20004, 0x3FFFF⟩,
    ⟨"RD_CMD", 0x00008, 0x3FFFF⟩, ⟨"WR_CMD", 0x20008, 0x3FFFF⟩,
    ⟨"RD_STATUS", 0x0000C, 0x3FFFF⟩, ⟨"WR_STATUS", 0x2000C, 0x3FFFF⟩,
    ⟨"RD_IRQ_EN", 0x00010, 0x3FFFF⟩, ⟨"WR_IRQ_EN", 0x20010, 0x3FFFF⟩,
    ⟨"RD_PARAM", 0x00014, 0x3FFFF⟩, ⟨"WR_PARAM", 0x20014, 0x3FFFF⟩,
    ⟨"RD_DST_BASE", 0x00018, 0x3FFFF⟩, ⟨"WR_DST_BASE", 0x20018, 0x3FFFF⟩,
    ⟨"RD_DST_PITCH", 0x0001C, 0x3FFFF⟩, ⟨"WR_DST_PITCH", 0x2001C, 0x3FFFF⟩,
    ⟨"RD_DST_DEPTH", 0x00020, 0x3FFFF⟩, ⟨"WR_DST_DEPTH", 0x20020, 0x3FFFF⟩,
    ⟨"RD_LAST_ERR", 0x00024, 0x3FFFF⟩, ⟨"WR_LAST_ERR", 0x20024, 0x3FFFF⟩,
    ⟨"RD_FAULT_ADDR", 0x00028, 0x3FFFF⟩, ⟨"WR_FAULT_ADDR", 0x20028, 0x3FFFF⟩,
    ⟨"RD_CONV_HSL", 0x00030, 0x3FFFF⟩, ⟨"CONV", 0x20030, 0x3FFFF⟩,
    ⟨"RD_CONV_RGB", 0x00034, 0x3FFFF⟩, ⟨"WR_CONV_RGB", 0x20034, 0x3FFFF⟩,
    ⟨"RD_CONV_PIX", 0x00038, 0x3FFFF⟩, ⟨"WR_CONV_PIX", 0x20038, 0x3FFFF⟩ ]

/-- The rows of the palette window, the grid window and the reserved offsets. -/
def windowRows : List MmioRow :=
  [ ⟨"RD_PAL", 0x00400, 0x3FC03⟩, ⟨"WR_PAL", 0x20400, 0x3FC03⟩,
    ⟨"RD_GRID", 0x10000, 0x30000⟩, ⟨"WR_GRID", 0x30000, 0x30000⟩,
    ⟨"RSV_0002C_0002C", 0x0002C, 0x1FFFF⟩, ⟨"RSV_0003C_0003C", 0x0003C, 0x1FFFF⟩,
    ⟨"RSV_00040_0007F", 0x00040, 0x1FFC0⟩, ⟨"RSV_00080_000FF", 0x00080, 0x1FF80⟩,
    ⟨"RSV_00100_001FF", 0x00100, 0x1FF00⟩, ⟨"RSV_00200_003FF", 0x00200, 0x1FE00⟩,
    ⟨"RSV_00800_00FFF", 0x00800, 0x1F800⟩, ⟨"RSV_01000_01FFF", 0x01000, 0x1F000⟩,
    ⟨"RSV_02000_03FFF", 0x02000, 0x1E000⟩, ⟨"RSV_04000_07FFF", 0x04000, 0x1C000⟩,
    ⟨"RSV_08000_0FFFF", 0x08000, 0x18000⟩ ]

/-- Every MMIO row of spec/opcode_table.json. -/
def mmioRows : List MmioRow := registerRows ++ windowRows

/-- The mnemonic of an instruction's row in spec/opcode_table.json. -/
def Instr.mnemonic : Instr → String
  | .nop => "NOP" | .init => "INIT" | .clear => "CLEAR" | .buildPal => "BUILD_PAL"
  | .step => "STEP" | .render => "RENDER" | .effect => "EFFECT"
  | .rdId _ => "RD_ID" | .wrId _ _ => "WR_ID"
  | .rdGeom _ => "RD_GEOM" | .wrGeom _ _ => "WR_GEOM"
  | .rdCmd _ => "RD_CMD" | .wrCmd _ _ => "WR_CMD"
  | .rdStatus _ => "RD_STATUS" | .wrStatus _ _ => "WR_STATUS"
  | .rdIrqEn _ => "RD_IRQ_EN" | .wrIrqEn _ _ => "WR_IRQ_EN"
  | .rdParam _ => "RD_PARAM" | .wrParam _ _ => "WR_PARAM"
  | .rdDstBase _ => "RD_DST_BASE" | .wrDstBase _ _ => "WR_DST_BASE"
  | .rdDstPitch _ => "RD_DST_PITCH" | .wrDstPitch _ _ => "WR_DST_PITCH"
  | .rdDstDepth _ => "RD_DST_DEPTH" | .wrDstDepth _ _ => "WR_DST_DEPTH"
  | .rdLastErr _ => "RD_LAST_ERR" | .wrLastErr _ _ => "WR_LAST_ERR"
  | .rdFaultAddr _ => "RD_FAULT_ADDR" | .wrFaultAddr _ _ => "WR_FAULT_ADDR"
  | .rdConvHsl _ => "RD_CONV_HSL" | .conv _ _ => "CONV"
  | .rdConvRgb _ => "RD_CONV_RGB" | .wrConvRgb _ _ => "WR_CONV_RGB"
  | .rdConvPix _ => "RD_CONV_PIX" | .wrConvPix _ _ => "WR_CONV_PIX"
  | .rdPal _ _ => "RD_PAL" | .wrPal _ _ _ => "WR_PAL"
  | .rdGrid _ _ => "RD_GRID" | .wrGrid _ _ _ => "WR_GRID"
  | .rsv0002C _ _ => "RSV_0002C_0002C" | .rsv0003C _ _ => "RSV_0003C_0003C"
  | .rsv00040 _ _ _ => "RSV_00040_0007F" | .rsv00080 _ _ _ => "RSV_00080_000FF"
  | .rsv00100 _ _ _ => "RSV_00100_001FF" | .rsv00200 _ _ _ => "RSV_00200_003FF"
  | .rsv00800 _ _ _ => "RSV_00800_00FFF" | .rsv01000 _ _ _ => "RSV_01000_01FFF"
  | .rsv02000 _ _ _ => "RSV_02000_03FFF" | .rsv04000 _ _ _ => "RSV_04000_07FFF"
  | .rsv08000 _ _ _ => "RSV_08000_0FFFF"

end Sys2Proof
end

