-- ==== Sys2Proof/Config.lean ====
section
/-! DEFINITION. The parameters of one block (spec 00_scope.md R8) and the free values: every value the
spec calls unspecified, unknown or a draw (93_implementation_defined.md). -/

namespace Sys2Proof

/-- The parameter `hsl_to_rgb` of R8: the reference function of R100, which R8 names as this block's value,
or any other total function of the three operands (U10), named by a number. -/
inductive Converter
  | reference
  | other (n : Nat)
deriving DecidableEq, Repr

/-- The parameters of R8 that a rule of the block depends on. They are fixed for one block and never
change while it runs; State carries them, so that a statement about every state is a statement about
every block (assumption log 1). `MAX_LATENCY`, `BUS_PROTOCOL` and `RESET_STYLE` have no value and no
effect on a transaction-level rule (log 2); `FONT_BIT_ORDER` is an argument of the host procedures. -/
structure Params where
  /-- `GRID_W`, the grid width in cells. -/
  gridW : Nat
  /-- `GRID_H`, the grid height in cells. -/
  gridH : Nat
  /-- `FIRE_BASE`, the system address of the register window. -/
  fireBase : Word
  /-- `DMA_COHERENT`: whether other agents see the master port's writes without cache maintenance. -/
  dmaCoherent : Bool
  /-- `hsl_to_rgb`, the colour conversion function. -/
  converter : Converter
deriving DecidableEq, Repr

/-- The constraints R8 puts on the parameters: 1 to 65535 columns and rows, at most 65536 cells, and a
base that is a multiple of 0x20000. -/
abbrev Params.Valid (p : Params) : Prop :=
  1 ≤ p.gridW ∧ p.gridW ≤ 65535 ∧ 1 ≤ p.gridH ∧ p.gridH ≤ 65535 ∧ p.gridW * p.gridH ≤ 65536 ∧
    p.fireBase.toNat % 0x20000 = 0

/-- The bit-to-row order of the host's font table (R8 `FONT_BIT_ORDER`, R122). -/
inductive FontBitOrder
  | lsbTop
  | msbTop
deriving DecidableEq, Repr

/-- FREE VALUE: the n-th unspecified byte drawn (a grid cell nothing has written since reset, U16; a
system byte whose content the platform decides, U22, U24, U25). Nothing constrains it. -/
opaque Config.freeByte : Nat → Byte

/-- FREE VALUE: the n-th unspecified palette entry drawn (U21, R148). -/
opaque Config.freeHalf : Nat → Half

/-- FREE VALUE: the function u8³ → u8³ of the n-th converter that is not the reference (R8, U10): it depends
on its operands alone, and nothing else constrains it. -/
opaque Config.otherConverter : Nat → Byte → Byte → Byte → Byte × Byte × Byte

/-- FREE VALUE: the n-th unspecified read data of a refused window read (U20, R147, R148). -/
opaque Config.freeWord : Nat → Word

/-- FREE VALUE: whether the platform answers the n-th pixel write, at the given address, with OK, when
nothing in the State says so (R56, R61: which addresses it rejects is the platform's). -/
opaque Config.freeResponse : Nat → Word → Bool

end Sys2Proof
end

