-- ==== Sys2Proof/Machine/State.lean ====
section
/-! DEFINITION. The state of the FIRE block, whole (10_state.md), as plain data: its registers, its two
arrays, the engine's hidden state (R43), the system memory its master port writes, and six fields of
the model's own that hold what the outside world does and is told. -/

namespace Sys2Proof.Machine

/-- Why the machine stops with a fault. There is no reason: "the block has no traps" (R175), every rule
gives an effect, and an illegal access is answered on the bus (R172). No constructor is needed, so no
step of the model can fault (assumption log 22). -/
inductive Fault
deriving DecidableEq, Repr

/-- Why an instruction is refused. -/
inductive Refusal
  /-- Raised by an arm of `exec` whose instruction has no meaning yet; no arm raises it. Safe: a refused
  instruction has no next state, so nothing false can be proved of it. -/
  | notModelled (mnemonic : String)
deriving DecidableEq, Repr

/-- The platform's answer to one write of the master port (R56). -/
inductive PortResponse
  | ok
  | error
deriving DecidableEq, Repr

/-- One turn of one agent: what the outside world does next (R58, R62: one thing at a time). -/
inductive Turn
  /-- A host transaction arrives at the slave port. -/
  | host (t : Txn)
  /-- The engine moves; if it issues a pixel write, the platform answers `r`. -/
  | engine (r : PortResponse)
  /-- The reset input is asserted and released (R190). `inFlight` says what became of a pixel write
  already issued: none (there was none, or it never landed) or the platform's answer to it. -/
  | reset (inFlight : Option PortResponse)
  /-- Another agent stores `v` at system byte `a` (R65). -/
  | agentWrite (a : Word) (v : Byte)
  /-- Another agent reads system byte `a` (R64, R65). -/
  | agentRead (a : Word)
  /-- The host performs the platform's cache maintenance (R64). -/
  | maintain
deriving DecidableEq, Repr

/-- The slave port's answer to a host transaction: none since reset, OK to a write, OK with data to a
read, or an error response (R55). -/
inductive Reply
  | none
  | done
  | data (d : Word)
  | error
deriving DecidableEq, Repr

/-- The engine's progress position (R43): idle, or the index of the next element of the phase it is in.
`finish` means that every effect is performed and `complete()` (R141) is next. -/
inductive EnginePos
  | idle
  | pal (i : Nat)
  | clear (i : Nat)
  | step (i : Nat)
  | blit (i : Nat)
  | finish
deriving DecidableEq, Repr

/-- The operands latched at acceptance (R43, R72). `op` is the accepted command; its opcode is the u4
`lat.op` of R43. -/
structure Latches where
  op : Command
  mult : Half
  div : Half
  base : Word
  pitch : Word
deriving DecidableEq, Repr

/-- The state of the block and of what it is connected to. -/
structure State where
  /-- The parameters of R8, fixed for one block. -/
  params : Params
  /-- STATUS (R27). -/
  status : Word
  /-- IRQ_EN bits 1:0: ERR_IE, DONE_IE (R29). -/
  irqEn : BitVec 2
  /-- PARAM: DIV in bits 31:16, MULT in bits 15:0 (R30). -/
  param : Word
  /-- DST_BASE (R31). -/
  dstBase : Word
  /-- DST_PITCH (R32). -/
  dstPitch : Word
  /-- DST_DEPTH bits 7:0 (R33). -/
  dstDepth : Byte
  /-- LAST_ERR bits 11:8, OP (R34). -/
  lastErrOp : BitVec 4
  /-- LAST_ERR bits 3:0, CAUSE (R34). -/
  lastErrCause : BitVec 4
  /-- FAULT_ADDR (R35). -/
  faultAddr : Word
  /-- CONV_HSL bits 23:0: L, S, H (R36). -/
  convHsl : BitVec 24
  /-- The heat grid (R40): the cells written since reset, cell (x, y) under key y * GRID_W + x. -/
  grid : List Host.Cell
  /-- The palette table (R41): the entries written since reset. -/
  pal : List (Nat × Half)
  /-- The latched operands (R43). -/
  lat : Latches
  /-- The STEP snapshot: the grid at the acceptance of the last STEP or EFFECT (R43, R112). -/
  snap : List Host.Cell
  /-- The engine's progress position (R43). -/
  pos : EnginePos
  /-- The pseudocode's `ovf`: the STEP in progress computed a value above 255 (R111). -/
  ovfSeen : Bool
  /-- System memory (R50): the bytes whose content is known. -/
  mem : List Host.Cell
  /-- MODEL: the host has performed the platform's cache maintenance (R64). -/
  maintained : Bool
  /-- MODEL: the system bytes the master port wrote after the last cache maintenance (R64), rising. -/
  stale : List Nat
  /-- MODEL: the turns still to come, the next one first. -/
  turns : List Turn
  /-- MODEL: the answer to the last host transaction. -/
  reply : Reply
  /-- MODEL: the byte the last read of another agent returned. -/
  agentData : Byte
  /-- MODEL: the counter the free values of Config are applied to. -/
  draws : Nat
deriving DecidableEq, Repr

/-- The latches after reset. R45 leaves them "undefined and unused"; DESIGN CHOICE, log 6. -/
def Latches.initial : Latches := { op := .nop, mult := 0, div := 0, base := 0, pitch := 0 }

/-- The block with parameters `p` right after reset (R45, R190, R191): the registers at the reset values
of R23, the engine idle, the arrays unspecified. The fields of the model's own, the latches, the
snapshot and `ovfSeen` have values of the model's choice (logs 3, 4, 6, 8, 14, 28). -/
def State.initial (p : Params) : State where
  params := p
  status := 0
  irqEn := 0
  param := 0
  dstBase := 0
  dstPitch := 0
  dstDepth := 0x10
  lastErrOp := 0
  lastErrCause := 0
  faultAddr := 0
  convHsl := 0
  grid := []
  pal := []
  lat := Latches.initial
  snap := []
  pos := .idle
  ovfSeen := false
  mem := []
  maintained := false
  stale := []
  turns := []
  reply := .none
  agentData := 0
  draws := 0

/-- The block `State.reset` shows: the 4 × 4 grid of 95_test_vectors.md, which says "Unless a vector says
otherwise, GRID_W = GRID_H = 4, the block starts from reset"; FIRE_BASE and DMA_COHERENT are OPEN in R8, and R8 gives
the converter. DESIGN CHOICE, log 1: no statement rests on these values. -/
def Params.example4x4 : Params :=
  { gridW := 4, gridH := 4, fireBase := 0x40000000, dmaCoherent := true, converter := .reference }

/-- The machine right after reset. -/
def State.reset : State := State.initial Params.example4x4

end Sys2Proof.Machine
end

