-- ==== Sys2Proof/Machine/Flags.lean ====
section
/-! DEFINITION. The bits of STATUS (10_state.md R27, R28), the interrupt output (60_exceptions.md R170),
and the error causes with their codes and bits (R160). -/

namespace Sys2Proof.Machine

/-! ## STATUS -/

/-- STATUS.BUSY (R27). -/
abbrev bitBusy : Nat := 0
/-- STATUS.GRID_VALID (R27). -/
abbrev bitGridValid : Nat := 1
/-- STATUS.PAL_VALID (R27). -/
abbrev bitPalValid : Nat := 2
/-- STATUS.DONE (R27). -/
abbrev bitDone : Nat := 8

/-- The bits R27 defines; the others are RAZ/WI. -/
def statusDefined : Word := 0x00FF0107

/-- The W1C bits of R28: 8 and 16 to 23. -/
def statusW1C : Word := 0x00FF0100

/-- The error group of R170 and R173: bits 16 to 23. -/
def statusErrors : Word := 0x00FF0000

/-- One bit of STATUS. -/
def State.flag (s : State) (b : Nat) : Bool := s.status.getLsbD b

/-- `reg.STATUS[b] <- 1`. -/
def State.setFlag (b : Nat) (s : State) : State :=
  { s with status := s.status ||| BitVec.twoPow 32 b }

/-- `reg.STATUS[b] <- 0`. -/
def State.clearFlag (b : Nat) (s : State) : State :=
  { s with status := s.status &&& ~~~(BitVec.twoPow 32 b) }

/-- `reg.STATUS.BUSY = 1`. -/
def State.busy (s : State) : Bool := s.flag bitBusy

/-- `reg.STATUS.GRID_VALID = 1`. -/
def State.gridValid (s : State) : Bool := s.flag bitGridValid

/-- `reg.STATUS.PAL_VALID = 1`. -/
def State.palValid (s : State) : Bool := s.flag bitPalValid

/-- `reg.STATUS.DONE = 1`. -/
def State.done (s : State) : Bool := s.flag bitDone

/-- The STATUS value after a host write of `v` (R28): every W1C bit written 1 becomes 0, all other bits
keep their value. -/
def statusAfterWrite (status v : Word) : Word := status &&& ~~~(v &&& statusW1C)

/-! ## The interrupt -/

/-- The level-sensitive interrupt output (R170). -/
def State.irq (s : State) : Bool :=
  (s.done && s.irqEn.getLsbD 0) || (s.status &&& statusErrors != 0 && s.irqEn.getLsbD 1)

/-! ## Error causes -/

/-- The error causes of R160. -/
inductive ErrorCause
  | cmdIllegal
  | cmdBusy
  | noInit
  | depth
  | align
  | div0
  | bus
  | acc
  | ovf
deriving DecidableEq, Repr

/-- The cause code, as LAST_ERR.CAUSE holds it (R160). -/
def ErrorCause.code : ErrorCause → BitVec 4
  | .cmdIllegal => 1
  | .cmdBusy => 2
  | .noInit => 3
  | .depth => 4
  | .align => 5
  | .div0 => 6
  | .bus => 7
  | .acc => 8
  | .ovf => 9

/-- The STATUS bit of a cause (R160). -/
def ErrorCause.bit : ErrorCause → Nat
  | .cmdIllegal => 16
  | .cmdBusy => 16
  | .noInit => 17
  | .depth => 18
  | .align => 19
  | .div0 => 20
  | .bus => 21
  | .acc => 22
  | .ovf => 23

end Sys2Proof.Machine
end

