-- ==== Sys2Proof/Machine/Ops.lean ====
section
/-! DEFINITION. The named operations over the arrays, the system memory, the master port and the error
registers. RAISING AN ERROR (R162, R163) is the block's whole exception entry: "no state is saved and no
control is transferred"; the host's acknowledgement (R28, R176) is its return. -/

namespace Sys2Proof.Machine

/-! ## Stored cells

The grid, the palette, the snapshot and the system memory are lists of (key, value). A key that is not
listed has no known value: it was never written since reset, or the platform decides it. -/

/-- The value stored under a key, if one is known. -/
def Memory.read {w : Nat} : List (Nat × BitVec w) → Nat → Option (BitVec w)
  | [], _ => none
  | (k, v) :: rest, a => if a = k then some v else Memory.read rest a

/-- The cells with value `v` under key `a`, in rising order of keys. -/
def Memory.write {w : Nat} : List (Nat × BitVec w) → Nat → BitVec w → List (Nat × BitVec w)
  | [], a, v => [(a, v)]
  | (k, u) :: rest, a, v =>
    if a < k then (a, v) :: (k, u) :: rest
    else if a = k then (a, v) :: rest
    else (k, u) :: Memory.write rest a v

/-- The cells with nothing known under key `a`. -/
def Memory.erase {w : Nat} (m : List (Nat × BitVec w)) (a : Nat) : List (Nat × BitVec w) :=
  m.filter fun c => c.1 != a

/-- The canonical form: keys strictly rising, and below the size of the array. An unlisted key reads as
no value, so no entry can be equal to what it reads as. -/
abbrev Memory.wf {w : Nat} (size : Nat) (m : List (Nat × BitVec w)) : Prop :=
  m.Pairwise (fun c d => c.1 < d.1) ∧ ∀ c ∈ m, c.1 < size

/-- The size of the system space: 32-bit byte addresses (R50). -/
def systemSpace : Nat := 0x100000000

/-- The number of grid cells, `GRID_W × GRID_H`. -/
def State.cells (s : State) : Nat := s.params.gridW * s.params.gridH

/-- The number of cells in rows 0 to GRID_H-2: those STEP computes and RENDER draws (R44). -/
def State.upperCells (s : State) : Nat := (s.params.gridH - 1) * s.params.gridW

/-! ## Errors -/

/-- `raise E_X(op)` (R163): set the STATUS bit and record LAST_ERR. -/
def raise (e : ErrorCause) (op : BitVec 4) (s : State) : State :=
  { s.setFlag e.bit with lastErrOp := op, lastErrCause := e.code }

/-- `raise E_BUS(op, addr)` (R163). -/
def raiseBus (op : BitVec 4) (addr : Word) (s : State) : State :=
  { raise .bus op s with faultAddr := addr }

/-- `raise E_ACC(offset)` (R163): OP is 0 and FAULT_ADDR takes the zero-extended window offset. -/
def raiseAcc (off : BitVec 17) (s : State) : State :=
  { raise .acc 0 s with faultAddr := off.setWidth 32 }

/-- Set the STATUS bit of every error in a list. -/
def setErrorBits : List ErrorCause → State → State
  | [], s => s
  | e :: rest, s => setErrorBits rest (s.setFlag e.bit)

/-- The smallest cause code of a list that starts with `e`. -/
def smallestCode (e : ErrorCause) : List ErrorCause → BitVec 4
  | [] => e.code
  | f :: rest => if f.code.toNat < e.code.toNat then smallestCode f rest else smallestCode e rest

/-- `raise_all(fails, op)` (R162): every bit is set, LAST_ERR takes the smallest cause code, FAULT_ADDR is
unchanged. An empty list raises nothing. -/
def raiseAll (fails : List ErrorCause) (op : BitVec 4) (s : State) : State :=
  match fails with
  | [] => s
  | e :: rest =>
    { setErrorBits (e :: rest) s with lastErrOp := op, lastErrCause := smallestCode e rest }

/-! ## The grid and the palette -/

/-- The heat cell under a linear index, as the engine reads it. A cell with no known value reads as a
free value; the invariant of Safety.lean excludes it whenever the engine reads. -/
def State.cell (s : State) (i : Nat) : Byte :=
  (Memory.read s.grid i).getD (Config.freeByte (s.draws + i))

/-- The snapshot's cell under a linear index; see `State.cell`. -/
def State.snapCell (s : State) (i : Nat) : Byte :=
  (Memory.read s.snap i).getD (Config.freeByte (s.draws + i))

/-- The palette entry of a heat value, as the blitter reads it; see `State.cell`. -/
def State.palEntry (s : State) (heat : Byte) : Half :=
  (Memory.read s.pal heat.toNat).getD (Config.freeHalf (s.draws + heat.toNat))

/-- Write one grid cell. -/
def State.setCell (i : Nat) (v : Byte) (s : State) : State :=
  { s with grid := Memory.write s.grid i v }

/-! ## The grid window -/

/-- Byte `k` of the data lines: bits 8k+7 : 8k (R52). -/
def dataByte (d : Word) (k : Nat) : Byte := d.extractLsb' (8 * k) 8

/-- Store `n` data bytes, from byte `k` on, into the cells from index `i` on; bytes beyond the grid are
ignored (R51, R146). -/
def storeCells : Nat → Nat → Nat → Word → State → State
  | 0, _, _, _, s => s
  | n + 1, k, i, d, s =>
    storeCells n (k + 1) (i + 1) d (if i < s.cells then s.setCell i (dataByte d k) else s)

/-- The effect of an `n`-byte write at grid window byte `i` (R146). While busy, an access that touches a
cell raises E_ACC and is dropped; one that touches only reserved bytes is ignored (R51; log 10). -/
def gridWrite (n i : Nat) (d : Word) (s : State) : State :=
  if s.busy then
    if i < s.cells then raiseAcc (BitVec.ofNat 17 (0x10000 + i)) s else s
  else storeCells n 0 i d s

/-! ## The master port -/

/-- Whether a system address lies in the block's own window (R60). -/
def State.inWindow (s : State) (a : Word) : Bool :=
  s.params.fireBase.toNat ≤ a.toNat && a.toNat < s.params.fireBase.toNat + 0x20000

/-- A 16-bit write that a bus master addresses to the block's own window, at an even offset: the
register and palette space answers a sub-word access with an error response, reserved space ignores it,
the grid window takes it as any other write (R14, R39, R55, R146; log 17). The Bool is "answered OK". -/
def ownWindowWrite (off : Nat) (v : Half) (s : State) : State × Bool :=
  if off < 0x800 then (s, false)
  else if off < 0x10000 then (s, true)
  else (gridWrite 2 (off - 0x10000) (v.setWidth 32) s, true)

/-- The system memory after `MemWrite(addr, 2, v)` was answered OK: little-endian (R53). -/
def storePixel (mem : List Host.Cell) (a : Word) (v : Half) : List Host.Cell :=
  Memory.write (Memory.write mem a.toNat (v.extractLsb' 0 8)) (a + 1).toNat (v.extractLsb' 8 8)

/-- The system memory after a write to `addr` was answered ERROR: what its two bytes hold is the
platform's to say (R56, R135, U22; log 12). -/
def forgetPixel (mem : List Host.Cell) (a : Word) : List Host.Cell :=
  Memory.erase (Memory.erase mem a.toNat) (a + 1).toNat

/-- The rising list `l` of addresses with `a` in it. -/
def addAddress : List Nat → Nat → List Nat
  | [], a => [a]
  | k :: rest, a =>
    if a < k then a :: k :: rest
    else if a = k then k :: rest
    else k :: addAddress rest a

/-- The canonical form of a list of addresses: strictly rising, and below the size of the space. -/
abbrev AddressesWf (size : Nat) (l : List Nat) : Prop := l.Pairwise (· < ·) ∧ ∀ a ∈ l, a < size

/-- The stale bytes after a pixel write to `a` reached memory: no cache maintenance came after it (R64). -/
def markPixel (stale : List Nat) (a : Word) : List Nat :=
  addAddress (addAddress stale a.toNat) (a + 1).toNat

/-- What memory holds at `a` is what another agent reads there (R64): the platform is coherent, or its cache
maintenance was performed after the block's last write to that byte (log 28). -/
def State.visible (s : State) (a : Word) : Bool :=
  s.params.dmaCoherent || (s.maintained && !s.stale.contains a.toNat)

/-- `MemWrite(addr, 2, v)` (R56) with the platform's answer `r`. The two bytes of a write that reaches memory
have had no cache maintenance after it (R64). The Bool is "answered OK". -/
def memWrite (a : Word) (v : Half) (r : PortResponse) (s : State) : State × Bool :=
  match r with
  | .ok =>
    if s.inWindow a then ownWindowWrite (a.toNat - s.params.fireBase.toNat) v s
    else ({ s with mem := storePixel s.mem a v, stale := markPixel s.stale a }, true)
  | .error =>
    if s.inWindow a then (s, false)
    else ({ s with mem := forgetPixel s.mem a, stale := markPixel s.stale a }, false)

end Sys2Proof.Machine
end

