-- ==== Sys2Proof/Machine/Operands.lean ====
section
/-! DEFINITION. The forms of a host access: which widths and alignments are legal (20_memory.md R55), what
the slave port answers, the fields of the operand registers (R72, R73), and the assembly of read data
(R52). -/

namespace Sys2Proof.Machine

/-- The number of bytes of an access (R52, R74). -/
def widthBytes : Width → Nat
  | .w8 => 1
  | .w16 => 2
  | .w32 => 4
  | .other n => n

/-- A legal access to register space or the palette window at an aligned offset: 32 bits (R55). -/
def legalWord (w : Width) : Bool := w = .w32

/-- A legal access to the grid window or reserved space: 8, 16 or 32 bits, naturally aligned (R55). -/
def legalSized (off : Nat) (w : Width) : Bool :=
  match w with
  | .w8 => true
  | .w16 => off % 2 = 0
  | .w32 => off % 4 = 0
  | .other _ => false

/-- A legal access to a reserved offset: 32 bits aligned below 0x800, 8, 16 or 32 bits naturally aligned
from 0x800 (R39, R55). -/
def legalReserved (off : Nat) (w : Width) : Bool :=
  if off < 0x800 then legalWord w && legalSized off w else legalSized off w

/-! ## What the slave port answers -/

/-- A host read of one register or palette word, with the data `value` and the effect `after` (R145). An
illegal access "receives an error response on the platform bus, reads no state, writes no state and
changes no STATUS bit" (R55). -/
def answerRead (legal : Bool) (value : State → Word) (after : State → State) (s : State) :
    Host.Outcome State Fault Refusal :=
  if legal then .next { after s with reply := .data (value s) } else .next { s with reply := .error }

/-- A host write with the effect `after` (R145); an illegal access as in `answerRead`. -/
def answerWrite (legal : Bool) (after : State → State) (s : State) :
    Host.Outcome State Fault Refusal :=
  if legal then .next { after s with reply := .done } else .next { s with reply := .error }

/-- A plain register read: no side effect (R59, R145). -/
def readRegister (w : Width) (value : State → Word) (s : State) :
    Host.Outcome State Fault Refusal :=
  answerRead (legalWord w) value id s

/-- A register write. -/
def writeRegister (w : Width) (after : State → State) (s : State) :
    Host.Outcome State Fault Refusal :=
  answerWrite (legalWord w) after s

/-- An access to a reserved offset: reads 0, ignores writes, raises nothing, busy or not (R39). -/
def accessReserved (off : Nat) (w : Width) (a : RsvAccess) (s : State) :
    Host.Outcome State Fault Refusal :=
  match a with
  | .read => answerRead (legalReserved off w) (fun _ => 0) id s
  | .write _ => answerWrite (legalReserved off w) id s

/-! ## The fields of the operand registers (R72, R73) -/

/-- PARAM.MULT, bits 15:0 (R30). -/
def State.mult (s : State) : Half := s.param.extractLsb' 0 16

/-- PARAM.DIV, bits 31:16 (R30). -/
def State.div (s : State) : Half := s.param.extractLsb' 16 16

/-- CONV_HSL.H, bits 7:0 (R36). -/
def State.hue (s : State) : Byte := s.convHsl.extractLsb' 0 8

/-- CONV_HSL.S, bits 15:8 (R36). -/
def State.saturation (s : State) : Byte := s.convHsl.extractLsb' 8 8

/-- CONV_HSL.L, bits 23:16 (R36). -/
def State.lightness (s : State) : Byte := s.convHsl.extractLsb' 16 8

/-- GEOM: GRID_H in bits 31:16, GRID_W in bits 15:0 (R25). -/
def State.geom (s : State) : Word :=
  BitVec.ofNat 16 s.params.gridH ++ BitVec.ofNat 16 s.params.gridW

/-- LAST_ERR: OP in bits 11:8, CAUSE in bits 3:0, the others 0 (R34). -/
def State.lastErr (s : State) : Word := 0#20 ++ s.lastErrOp ++ 0#4 ++ s.lastErrCause

/-! ## Read data -/

/-- The four data lines' bytes as one word, byte k on bits 8k+7 : 8k (R52). -/
def assemble (byte : Nat → Byte) : Word := byte 3 ++ byte 2 ++ byte 1 ++ byte 0

/-- Byte `k` of a read that starts at grid window byte `i` (R147): the cell, a free value where nothing
has written the cell since reset (R45), 0 beyond the grid (R51). -/
def gridByte (s : State) (i k : Nat) : Byte :=
  if i + k < s.cells then (Memory.read s.grid (i + k)).getD (Config.freeByte (s.draws + k)) else 0

/-- Byte lane `k` of an `n`-byte read at grid window byte `i`; the lanes beyond the access are 0. -/
def gridLane (n i : Nat) (s : State) (k : Nat) : Byte := if k < n then gridByte s i k else 0

/-- The data of an `n`-byte read at grid window byte `i`, byte k on bits 8k+7 : 8k (R52, R147). -/
def gridData (n i : Nat) (s : State) : Word := assemble (gridLane n i s)

/-- Whether an `n`-byte read at grid window byte `i` reads a cell nothing has written since reset. -/
def readsUnwritten (n i : Nat) (s : State) : Bool :=
  (List.range n).any fun k => i + k < s.cells && (Memory.read s.grid (i + k)).isNone

/-- Byte lane `k` of a refused `n`-byte read at grid window byte `i`: a free value for a cell (R147), 0 for a
byte beyond the grid, "busy or not" (R51), and 0 beyond the access. -/
def drawLane (n i : Nat) (s : State) (k : Nat) : Byte :=
  if k < n ∧ i + k < s.cells then dataByte (Config.freeWord s.draws) k else 0

/-- The data of a refused `n`-byte read at grid window byte `i` (R147, R51; log 10). -/
def drawData (n i : Nat) (s : State) : Word := assemble (drawLane n i s)

/-- Advance the counter of the free values past `n` draws. -/
def State.advanceDraws (n : Nat) (s : State) : State := { s with draws := s.draws + n }

end Sys2Proof.Machine
end

