-- ==== Sys2Proof/Machine/Command.lean ====
section
/-! DEFINITION. Command control, shared by the seven commands (44_control_and_access.md R140, R141): the
acceptance checks, acceptance, refusal, completion. -/

namespace Sys2Proof.Machine

/-- The commands that read the grid: STEP, RENDER, EFFECT (R140). -/
def Command.readsGrid : Command → Bool
  | .step | .render | .effect => true
  | .nop | .init | .clear | .buildPal => false

/-- The commands that read the palette and write the destination: RENDER, EFFECT (R140). -/
def Command.draws : Command → Bool
  | .render | .effect => true
  | .nop | .init | .clear | .buildPal | .step => false

/-- The commands that advance the grid and divide by DIV: STEP, EFFECT (R140). -/
def Command.diffuses : Command → Bool
  | .step | .effect => true
  | .nop | .init | .clear | .buildPal | .render => false

/-- An array the command reads is not valid (R140, R164). -/
def failsNoInit (c : Command) (s : State) : Bool :=
  (Command.readsGrid c && !s.gridValid) || (Command.draws c && !s.palValid)

/-- The pixel depth is not 16 (R133, R165). -/
def failsDepth (c : Command) (s : State) : Bool := Command.draws c && s.dstDepth != 16

/-- The destination base or pitch is odd (R133, R167). -/
def failsAlign (c : Command) (s : State) : Bool :=
  Command.draws c && (s.dstBase.getLsbD 0 || s.dstPitch.getLsbD 0)

/-- The divider is 0 (R169). -/
def failsDiv0 (c : Command) (s : State) : Bool := Command.diffuses c && s.div == 0

/-- The acceptance checks that fail (R140). -/
def acceptFails (c : Command) (s : State) : List ErrorCause :=
  (if failsNoInit c s then [.noInit] else []) ++ (if failsDepth c s then [.depth] else []) ++
    (if failsAlign c s then [.align] else []) ++ (if failsDiv0 c s then [.div0] else [])

/-- Where the engine starts a command. -/
def startPos : Command → EnginePos
  | .nop => .finish
  | .init => .pal 0
  | .clear => .clear 0
  | .buildPal => .pal 0
  | .step => .step 0
  | .render => .blit 0
  | .effect => .step 0

/-- The latches at acceptance (R72, R140). -/
def latchOperands (c : Command) (s : State) : Latches :=
  { op := c, mult := s.mult, div := s.div, base := s.dstBase, pitch := s.dstPitch }

/-- Take the snapshot and clear `ovf` where the command is a STEP or an EFFECT (R111, R112). -/
def takeSnapshot (c : Command) (s : State) : State :=
  if Command.diffuses c then { s with snap := s.grid, ovfSeen := false } else s

/-- Acceptance (R140): the operands are latched, BUSY becomes 1 and the engine starts the command. -/
def accept (c : Command) (s : State) : State :=
  { (takeSnapshot c s).setFlag bitBusy with lat := latchOperands c s, pos := startPos c }

/-- Processing of a legal command word (R140): the busy check first, then every acceptance check. A
refused command changes nothing but its error record. -/
def issue (c : Command) (s : State) : State :=
  if s.busy then raise .cmdBusy c.opcode s
  else if acceptFails c s = [] then accept c s
  else raiseAll (acceptFails c s) c.opcode s

/-- Processing of a CMD write of `v` (R140): the illegal-word check comes first (R174). -/
def cmdWrite (v : Word) (s : State) : State :=
  match Command.ofWord v with
  | none => raise .cmdIllegal (cmdOp v) s
  | some c => issue c s

/-- The meaning of a row of format CMD: a legal 32-bit host write of the command's word to CMD (R70). The
slave port answers OK whether the command is accepted or refused: an error is an event the host reads,
not a bus error (R175). -/
def answerCommand (c : Command) (s : State) : Host.Outcome State Fault Refusal :=
  .next { issue c s with reply := .done }

/-- Set a validity bit where the command in progress makes its array valid (R27, R42). -/
def markValid (s : State) : State :=
  match s.lat.op with
  | .init => (s.setFlag bitPalValid).setFlag bitGridValid
  | .clear => s.setFlag bitGridValid
  | .buildPal => s.setFlag bitPalValid
  | .nop | .step | .render | .effect => s

/-- The engine's last turn of a command: `complete()` (R141), with the validity bits that "completion"
sets (R27; log 5). -/
def complete (s : State) : State :=
  { ((markValid s).clearFlag bitBusy).setFlag bitDone with pos := .idle }

/-- The engine leaves a command that a bus error stopped: BUSY becomes 0, DONE is not set (R135). -/
def abort (s : State) : State := { s.clearFlag bitBusy with pos := .idle }

/-- NOP (R142): on acceptance BUSY becomes 1; the engine completes it. -/
def execNop (s : State) : Host.Outcome State Fault Refusal := answerCommand .nop s

/-- WR_CMD (R140): a host write of `v` to CMD. For a legal word it is the command itself. -/
def execWrCmd (w : Width) (v : Word) (s : State) : Host.Outcome State Fault Refusal :=
  writeRegister w (cmdWrite v) s

/-- RD_CMD (R26): reads 0 and has no effect. -/
def execRdCmd (w : Width) (s : State) : Host.Outcome State Fault Refusal :=
  readRegister w (fun _ => 0) s

end Sys2Proof.Machine
end

