-- ==== Sys2Proof/Machine/Blitter.lean ====
section
/-! DEFINITION. The blitter: RENDER (43_blitter.md R130 to R136) and the drawing half of EFFECT. -/

namespace Sys2Proof.Machine

/-- RENDER (R130): its acceptance; the engine's turns are `blitTurn` and `complete`. -/
def execRender (s : State) : Host.Outcome State Fault Refusal := answerCommand .render s

/-- The pixel address `trunc_32(lat.base + lat.pitch * y + 2 * x)` (R131): exact, then reduced. -/
def pixelAddress (l : Latches) (y x : Nat) : Word :=
  BitVec.ofNat 32 (l.base.toNat + l.pitch.toNat * y + 2 * x)

/-- The address of the pixel with linear index `i`: rows ascending, columns ascending (R132). -/
def State.pixelAddr (s : State) (i : Nat) : Word :=
  pixelAddress s.lat (i / s.params.gridW) (i % s.params.gridW)

/-- The value of the pixel with linear index `i`: `pal[grid[y][x]]` (R134). -/
def State.pixelValue (s : State) (i : Nat) : Half := s.palEntry (s.cell i)

/-- One turn of the drawing loop of RENDER and EFFECT (R130): one pixel write, answered `r`. An error
response raises E_BUS and aborts the command (R135); past the last pixel the command is finished. -/
def blitTurn (r : PortResponse) (i : Nat) (s : State) : State :=
  if i < s.upperCells then
    let res := memWrite (s.pixelAddr i) (s.pixelValue i) r s
    if res.2 then { res.1 with pos := .blit (i + 1) }
    else abort (raiseBus s.lat.op.opcode (s.pixelAddr i) res.1)
  else { s with pos := .finish }

end Sys2Proof.Machine
end

