-- ==== Sys2Proof/Machine/Diffusion.lean ====
section
/-! DEFINITION. The heat grid's clear and the diffusion step (41_grid_diffusion.md R110 to R114). -/

namespace Sys2Proof.Machine

/-- CLEAR (R110): its acceptance; the engine's turns are `clearTurn` and `complete`. -/
def execClear (s : State) : Host.Outcome State Fault Refusal := answerCommand .clear s

/-- One turn of the clearing loop of CLEAR and INIT (R110, R143), in row-major order: one cell becomes 0,
or, past the last cell, the command is finished. -/
def clearTurn (i : Nat) (s : State) : State :=
  if i < s.cells then { s.setCell i 0 with pos := .clear (i + 1) } else { s with pos := .finish }

/-- STEP (R111): its acceptance; the engine's turns are `stepTurn` and `complete`. -/
def execStep (s : State) : Host.Outcome State Fault Refusal := answerCommand .step s

/-- `snap[y][x]` (R10, R112). -/
def State.snapAt (s : State) (y x : Nat) : Byte := s.snapCell (y * s.params.gridW + x)

/-- The sum of the four samples of cell (x, y) (R111, R113): the row below at x-1, x, x+1 and the row two
below at x, every index modulo the grid's own dimensions. -/
def stepSum (s : State) (y x : Nat) : Nat :=
  let w := s.params.gridW
  let y1 := (y + 1) % s.params.gridH
  let y2 := (y + 2) % s.params.gridH
  (s.snapAt y1 ((x + w - 1) % w)).toNat + (s.snapAt y1 x).toNat + (s.snapAt y1 ((x + 1) % w)).toNat +
    (s.snapAt y2 x).toNat

/-- The exact quotient of cell (x, y): `(sum * lat.mult) // lat.div` (R114). -/
def stepValue (s : State) (y x : Nat) : Nat := stepSum s y x * s.lat.mult.toNat / s.lat.div.toNat

/-- One turn of the diffusion loop of STEP and EFFECT (R111): the cell takes the low 8 bits of its
quotient and `ovf` records a quotient above 255. Past the last cell of row GRID_H-2, W_OVF is raised once
if any cell overflowed (R168), and EFFECT goes on to its RENDER (R144). -/
def stepTurn (i : Nat) (s : State) : State :=
  if i < s.upperCells then
    let val := stepValue s (i / s.params.gridW) (i % s.params.gridW)
    { s.setCell i (BitVec.ofNat 8 val) with
      pos := .step (i + 1), ovfSeen := s.ovfSeen || decide (255 < val) }
  else
    { (if s.ovfSeen then raise .ovf s.lat.op.opcode s else s) with
      pos := if s.lat.op = .effect then .blit 0 else .finish }

end Sys2Proof.Machine
end

