-- ==== Sys2Proof/Machine/Color.lean ====
section
/-! DEFINITION. The colour converter (40_color_palette.md R100 to R104) and the converter registers
(10_state.md R36 to R38). -/

namespace Sys2Proof.Machine

/-! ## The conversion functions -/

/-- R100, integer form: `a = 255 - |2*l - 255|`. -/
def hslSpan (l : Byte) : Int := 255 - ((2 * (l.toNat : Int) - 255).natAbs : Int)

/-- R100: the sextant `k = (3*h) // 128`, 0 to 5. -/
def hslSextant (h : Byte) : Nat := 3 * h.toNat / 128

/-- R100, integer form: `t = 128 - |((3*h) mod 256) - 128|`. -/
def hslRamp (h : Byte) : Int := 128 - ((((3 * h.toNat % 256 : Nat) : Int) - 128).natAbs : Int)

/-- R100, integer form: the component equal to C. -/
def hslMax (s l : Byte) : Int := l.toNat + (128 * hslSpan l * s.toNat) / 65280

/-- R100, integer form: the component equal to X; `/` is floor division. -/
def hslMid (h s l : Byte) : Int := l.toNat + ((2 * hslRamp h - 128) * hslSpan l * s.toNat) / 65280

/-- R100, integer form: the component equal to 0. -/
def hslMin (s l : Byte) : Int := l.toNat + (-128 * hslSpan l * s.toNat) / 65280

/-- R100: the place of the components C, X and 0 in each sextant. -/
def sextantSelect {α : Type} (k : Nat) (c x z : α) : α × α × α :=
  match k with
  | 0 => (c, x, z)
  | 1 => (x, c, z)
  | 2 => (z, c, x)
  | 3 => (z, x, c)
  | 4 => (x, z, c)
  | _ => (c, z, x)

/-- R100: the three components as exact integers. -/
def hslComponents (h s l : Byte) : Int × Int × Int :=
  sextantSelect (hslSextant h) (hslMax s l) (hslMid h s l) (hslMin s l)

/-- `hsl_to_rgb(h, s, l)` (R100): the reference function, in the integer form the rule gives as equivalent. -/
def hslToRgb (h s l : Byte) : Byte × Byte × Byte :=
  let c := hslComponents h s l
  (BitVec.ofInt 8 c.1, BitVec.ofInt 8 c.2.1, BitVec.ofInt 8 c.2.2)

/-- The function a converter stands for (R8, U10; log 19). -/
def convertWith : Converter → Byte → Byte → Byte → Byte × Byte × Byte
  | .reference => hslToRgb
  | .other n => Config.otherConverter n

/-- R100, the reference pseudocode in exact rational arithmetic: the three components before the final
conversion to u8. The model computes with `hslComponents`; this is what it is claimed to equal. -/
def hslRational (h s l : Byte) : Int × Int × Int :=
  let lightness : ℚ := (l.toNat : ℚ) / 255
  let saturation : ℚ := (s.toNat : ℚ) / 255
  let chroma : ℚ := (1 - |2 * lightness - 1|) * saturation
  let hp : ℚ := 6 * (h.toNat : ℚ) / 256
  let k : Nat := ⌊hp⌋.toNat
  let f : ℚ := hp - 2 * (⌊hp / 2⌋ : ℚ)
  let x : ℚ := chroma * (1 - |f - 1|)
  let m : ℚ := lightness - chroma / 2
  let rgb := sextantSelect k chroma x 0
  (⌊255 * (rgb.1 + m)⌋, ⌊255 * (rgb.2.1 + m)⌋, ⌊255 * (rgb.2.2 + m)⌋)

/-- `pack_rgb565(r, g, b)` (R101): red in bits 15:11, green in 10:5, blue in 4:0, low bits dropped. -/
def packRgb565 (r g b : Byte) : Half := r.extractLsb' 3 5 ++ g.extractLsb' 2 6 ++ b.extractLsb' 3 5

/-- `swap16(p)` (R102): the two bytes exchanged. -/
def swap16 (p : Half) : Half := p.extractLsb' 0 8 ++ p.extractLsb' 8 8

/-- The swapped RGB565 word of an RGB triple. -/
def swappedPixel (rgb : Byte × Byte × Byte) : Half := swap16 (packRgb565 rgb.1 rgb.2.1 rgb.2.2)

/-- The lightness of a heat value: `min(255, 2*x)` (R104). -/
def paletteLightness (x : Byte) : Byte := BitVec.ofNat 8 (min 255 (2 * x.toNat))

/-- The hue of a heat value: `x // 3` (R104). -/
def paletteHue (x : Byte) : Byte := BitVec.ofNat 8 (x.toNat / 3)

/-- `pal_entry(x)` over any converter: the parameter `hsl_to_rgb` of R8 (U10). -/
def palEntryOf (convert : Byte → Byte → Byte → Byte × Byte × Byte) (x : Byte) : Half :=
  swappedPixel (convert (paletteHue x) 255 (paletteLightness x))

/-- `pal_entry(x)` (R104) under the reference converter. -/
def palEntry (x : Byte) : Half := palEntryOf hslToRgb x

/-- `pal_entry(x)` (R104) under the block's own converter. -/
def State.builtEntry (s : State) (x : Byte) : Half := palEntryOf (convertWith s.params.converter) x

/-! ## The converter registers -/

/-- `hsl_to_rgb` of the current CONV_HSL (R37). -/
def State.convColor (s : State) : Byte × Byte × Byte :=
  convertWith s.params.converter s.hue s.saturation s.lightness

/-- CONV_RGB (R37): B in bits 23:16, G in 15:8, R in 7:0, at every instant. R23 lists the reset value 0 and R37
gives the colour of (0, 0, 0) at reset: the two agree under the reference converter; under any other the model
follows "at every instant" (DESIGN CHOICE, log 29). -/
def State.convRgb (s : State) : Word := 0#8 ++ s.convColor.2.2 ++ s.convColor.2.1 ++ s.convColor.1

/-- CONV_PIX (R38): SWP in bits 31:16, PIX in bits 15:0; at reset as `State.convRgb` (DESIGN CHOICE, log 29). -/
def State.convPix (s : State) : Word :=
  swappedPixel s.convColor ++ packRgb565 s.convColor.1 s.convColor.2.1 s.convColor.2.2

/-- RD_CONV_HSL (R36): H, S and L; bits 31:24 read 0. -/
def execRdConvHsl (w : Width) (s : State) : Host.Outcome State Fault Refusal :=
  readRegister w (fun s => s.convHsl.setWidth 32) s

/-- CONV (R103): `reg.CONV_HSL <- zext_32(v[23:0])`; CONV_RGB and CONV_PIX follow it. Independent of
BUSY and PAL_VALID; STATUS is unchanged. -/
def execConv (w : Width) (v : Word) (s : State) : Host.Outcome State Fault Refusal :=
  writeRegister w (fun s => { s with convHsl := v.extractLsb' 0 24 }) s

/-- RD_CONV_RGB (R37). -/
def execRdConvRgb (w : Width) (s : State) : Host.Outcome State Fault Refusal :=
  readRegister w State.convRgb s

/-- WR_CONV_RGB: ignored (R37, R145). -/
def execWrConvRgb (w : Width) (_v : Word) (s : State) : Host.Outcome State Fault Refusal :=
  writeRegister w id s

/-- RD_CONV_PIX (R38). -/
def execRdConvPix (w : Width) (s : State) : Host.Outcome State Fault Refusal :=
  readRegister w State.convPix s

/-- WR_CONV_PIX: ignored (R38, R145). -/
def execWrConvPix (w : Width) (_v : Word) (s : State) : Host.Outcome State Fault Refusal :=
  writeRegister w id s

end Sys2Proof.Machine
end

