-- ==== Sys2Proof/Machine/Palette.lean ====
section
/-! DEFINITION. The palette table: BUILD_PAL (40_color_palette.md R105) and the palette window
(44_control_and_access.md R148). -/

namespace Sys2Proof.Machine

/-- BUILD_PAL (R105): its acceptance; the engine's turns are `palTurn` and `complete`. -/
def execBuildPal (s : State) : Host.Outcome State Fault Refusal := answerCommand .buildPal s

/-- One turn of the palette loop of BUILD_PAL and INIT (R105, R143): `pal[i] <- pal_entry(i)`, or, past
entry 255, on to the next phase. -/
def palTurn (i : Nat) (s : State) : State :=
  if i < 256 then
    { s with pal := Memory.write s.pal i (s.builtEntry (BitVec.ofNat 8 i)), pos := .pal (i + 1) }
  else { s with pos := if s.lat.op = .init then .clear 0 else .finish }

/-- The data of a palette read (R148): a free value while busy, a zero-extended free entry while
PAL_VALID is 0, else the entry zero-extended. -/
def palData (i : Byte) (s : State) : Word :=
  if s.busy then Config.freeWord s.draws
  else if s.palValid then (s.palEntry i).setWidth 32
  else (Config.freeHalf s.draws).setWidth 32

/-- The state after a palette read (R148): E_ACC while busy; a free value moves the counter on. -/
def palAfterRead (i : Byte) (s : State) : State :=
  if s.busy then raiseAcc (0x400 + 4 * i.setWidth 17) (s.advanceDraws 1)
  else if s.palValid then s
  else s.advanceDraws 1

/-- RD_PAL (R148). -/
def execRdPal (i : Byte) (w : Width) (s : State) : Host.Outcome State Fault Refusal :=
  answerRead (legalWord w) (palData i) (palAfterRead i) s

/-- WR_PAL: ignored, busy or not, and raises nothing (R148, R166). -/
def execWrPal (_i : Byte) (w : Width) (_v : Word) (s : State) : Host.Outcome State Fault Refusal :=
  writeRegister w id s

end Sys2Proof.Machine
end

