-- ==== Sys2Proof/Machine/Composite.lean ====
section
/-! DEFINITION. The commands composed of others (44_control_and_access.md R143, R144), and the engine: the
one sequencer that performs every command (10_state.md R21, R47). -/

namespace Sys2Proof.Machine

/-- INIT (R143): its acceptance; the engine builds the palette (`palTurn`), clears the grid (`clearTurn`)
and completes. A second INIT is accepted like the first (C5). -/
def execInit (s : State) : Host.Outcome State Fault Refusal := answerCommand .init s

/-- EFFECT (R144): its acceptance, under the checks of STEP and RENDER together; the engine does the body
of STEP (`stepTurn`), then that of RENDER over the stepped grid (`blitTurn`), and completes. -/
def execEffect (s : State) : Host.Outcome State Fault Refusal := answerCommand .effect s

/-- One turn of the engine; `r` is the platform's answer to a pixel write, if it issues one. An idle
engine does nothing. -/
def engineTurn (r : PortResponse) (s : State) : State :=
  match s.pos with
  | .idle => s
  | .pal i => palTurn i s
  | .clear i => clearTurn i s
  | .step i => stepTurn i s
  | .blit i => blitTurn r i s
  | .finish => complete s

end Sys2Proof.Machine
end

