-- ==== Sys2Proof/Machine/GridWindow.lean ====
section
/-! DEFINITION. The grid window (44_control_and_access.md R146, R147; 20_memory.md R51): how the host feeds
heat into the grid and reads it back. -/

namespace Sys2Proof.Machine

/-- WR_GRID (R146): `off` is the window offset less 0x10000. -/
def execWrGrid (off : BitVec 16) (w : Width) (v : Word) (s : State) :
    Host.Outcome State Fault Refusal :=
  answerWrite (legalSized off.toNat w) (gridWrite (widthBytes w) off.toNat v) s

/-- A read of the grid window that R147 refuses: BUSY is 1 and the access touches a cell. One that
touches only reserved bytes reads 0 and raises nothing, busy or not (R51; log 10). -/
def gridReadRefused (i : Nat) (s : State) : Bool := s.busy && decide (i < s.cells)

/-- The data of an `n`-byte read at grid window byte `i` (R147). -/
def gridReadData (n i : Nat) (s : State) : Word :=
  if gridReadRefused i s then drawData n i s else gridData n i s

/-- The state after an `n`-byte read at grid window byte `i` (R147): E_ACC where it is refused; free
values move the counter on. -/
def gridAfterRead (n i : Nat) (s : State) : State :=
  if gridReadRefused i s then raiseAcc (BitVec.ofNat 17 (0x10000 + i)) (s.advanceDraws 1)
  else if readsUnwritten n i s then s.advanceDraws n
  else s

/-- RD_GRID (R147): `off` is the window offset less 0x10000. -/
def execRdGrid (off : BitVec 16) (w : Width) (s : State) : Host.Outcome State Fault Refusal :=
  answerRead (legalSized off.toNat w) (gridReadData (widthBytes w) off.toNat)
    (gridAfterRead (widthBytes w) off.toNat) s

end Sys2Proof.Machine
end

