-- ==== Sys2Proof/Machine/Registers.lean ====
section
/-! DEFINITION. Plain register access (44_control_and_access.md R145): the read and the write of each register
of 10_state.md R23 but CMD (Command.lean) and the converter's (Color.lean). -/

namespace Sys2Proof.Machine

/-- RD_ID (R24): the constant 0x46495245. -/
def execRdId (w : Width) (s : State) : Host.Outcome State Fault Refusal :=
  readRegister w (fun _ => 0x46495245) s

/-- WR_ID: ignored (R24, R145). -/
def execWrId (w : Width) (_v : Word) (s : State) : Host.Outcome State Fault Refusal :=
  writeRegister w id s

/-- RD_GEOM (R25): GRID_H and GRID_W. -/
def execRdGeom (w : Width) (s : State) : Host.Outcome State Fault Refusal :=
  readRegister w State.geom s

/-- WR_GEOM: ignored (R25, R145). -/
def execWrGeom (w : Width) (_v : Word) (s : State) : Host.Outcome State Fault Refusal :=
  writeRegister w id s

/-- RD_STATUS (R27): reading clears nothing (R59). -/
def execRdStatus (w : Width) (s : State) : Host.Outcome State Fault Refusal :=
  readRegister w (fun s => s.status) s

/-- WR_STATUS (R28): write-one-to-clear on bits 8 and 16 to 23, busy or not. -/
def execWrStatus (w : Width) (v : Word) (s : State) : Host.Outcome State Fault Refusal :=
  writeRegister w (fun s => { s with status := statusAfterWrite s.status v }) s

/-- RD_IRQ_EN (R29): bits 31:2 read 0. -/
def execRdIrqEn (w : Width) (s : State) : Host.Outcome State Fault Refusal :=
  readRegister w (fun s => s.irqEn.setWidth 32) s

/-- WR_IRQ_EN (R29, R145): bits 31:2 are ignored. -/
def execWrIrqEn (w : Width) (v : Word) (s : State) : Host.Outcome State Fault Refusal :=
  writeRegister w (fun s => { s with irqEn := v.extractLsb' 0 2 }) s

/-- RD_PARAM (R30): DIV and MULT as written. -/
def execRdParam (w : Width) (s : State) : Host.Outcome State Fault Refusal :=
  readRegister w (fun s => s.param) s

/-- WR_PARAM (R30, R145): a command in progress keeps its latched operands (R196). -/
def execWrParam (w : Width) (v : Word) (s : State) : Host.Outcome State Fault Refusal :=
  writeRegister w (fun s => { s with param := v }) s

/-- RD_DST_BASE (R31): as written. -/
def execRdDstBase (w : Width) (s : State) : Host.Outcome State Fault Refusal :=
  readRegister w (fun s => s.dstBase) s

/-- WR_DST_BASE (R31, R145): any value, at any time. -/
def execWrDstBase (w : Width) (v : Word) (s : State) : Host.Outcome State Fault Refusal :=
  writeRegister w (fun s => { s with dstBase := v }) s

/-- RD_DST_PITCH (R32): as written. -/
def execRdDstPitch (w : Width) (s : State) : Host.Outcome State Fault Refusal :=
  readRegister w (fun s => s.dstPitch) s

/-- WR_DST_PITCH (R32, R145): any value, at any time. -/
def execWrDstPitch (w : Width) (v : Word) (s : State) : Host.Outcome State Fault Refusal :=
  writeRegister w (fun s => { s with dstPitch := v }) s

/-- RD_DST_DEPTH (R33): bits 31:8 read 0. -/
def execRdDstDepth (w : Width) (s : State) : Host.Outcome State Fault Refusal :=
  readRegister w (fun s => s.dstDepth.setWidth 32) s

/-- WR_DST_DEPTH (R33, R145): bits 31:8 are ignored. -/
def execWrDstDepth (w : Width) (v : Word) (s : State) : Host.Outcome State Fault Refusal :=
  writeRegister w (fun s => { s with dstDepth := v.extractLsb' 0 8 }) s

/-- RD_LAST_ERR (R34): OP and CAUSE of the latest error event. -/
def execRdLastErr (w : Width) (s : State) : Host.Outcome State Fault Refusal :=
  readRegister w State.lastErr s

/-- WR_LAST_ERR: ignored (R34, R145). -/
def execWrLastErr (w : Width) (_v : Word) (s : State) : Host.Outcome State Fault Refusal :=
  writeRegister w id s

/-- RD_FAULT_ADDR (R35): the latest failing address or refused offset. -/
def execRdFaultAddr (w : Width) (s : State) : Host.Outcome State Fault Refusal :=
  readRegister w (fun s => s.faultAddr) s

/-- WR_FAULT_ADDR: ignored (R35, R145). -/
def execWrFaultAddr (w : Width) (_v : Word) (s : State) : Host.Outcome State Fault Refusal :=
  writeRegister w id s

end Sys2Proof.Machine
end

