-- ==== Sys2Proof/Machine/Reserved.lean ====
section
/-! DEFINITION. The reserved offsets (10_state.md R39): "read as zero and ignore writes, raise no error and have
no side effect, busy or not". One meaning for each row of spec/opcode_table.json. -/

namespace Sys2Proof.Machine

/-- RSV_0002C_0002C (R39). -/
def execRsv0002C (w : Width) (a : RsvAccess) (s : State) : Host.Outcome State Fault Refusal :=
  accessReserved 0x0002C w a s

/-- RSV_0003C_0003C (R39). -/
def execRsv0003C (w : Width) (a : RsvAccess) (s : State) : Host.Outcome State Fault Refusal :=
  accessReserved 0x0003C w a s

/-- RSV_00040_0007F (R39). -/
def execRsv00040 (off : BitVec 6) (w : Width) (a : RsvAccess) (s : State) :
    Host.Outcome State Fault Refusal :=
  accessReserved (0x00040 + off.toNat) w a s

/-- RSV_00080_000FF (R39). -/
def execRsv00080 (off : BitVec 7) (w : Width) (a : RsvAccess) (s : State) :
    Host.Outcome State Fault Refusal :=
  accessReserved (0x00080 + off.toNat) w a s

/-- RSV_00100_001FF (R39). -/
def execRsv00100 (off : BitVec 8) (w : Width) (a : RsvAccess) (s : State) :
    Host.Outcome State Fault Refusal :=
  accessReserved (0x00100 + off.toNat) w a s

/-- RSV_00200_003FF (R39). -/
def execRsv00200 (off : BitVec 9) (w : Width) (a : RsvAccess) (s : State) :
    Host.Outcome State Fault Refusal :=
  accessReserved (0x00200 + off.toNat) w a s

/-- RSV_00800_00FFF (R39). -/
def execRsv00800 (off : BitVec 11) (w : Width) (a : RsvAccess) (s : State) :
    Host.Outcome State Fault Refusal :=
  accessReserved (0x00800 + off.toNat) w a s

/-- RSV_01000_01FFF (R39). -/
def execRsv01000 (off : BitVec 12) (w : Width) (a : RsvAccess) (s : State) :
    Host.Outcome State Fault Refusal :=
  accessReserved (0x01000 + off.toNat) w a s

/-- RSV_02000_03FFF (R39). -/
def execRsv02000 (off : BitVec 13) (w : Width) (a : RsvAccess) (s : State) :
    Host.Outcome State Fault Refusal :=
  accessReserved (0x02000 + off.toNat) w a s

/-- RSV_04000_07FFF (R39). -/
def execRsv04000 (off : BitVec 14) (w : Width) (a : RsvAccess) (s : State) :
    Host.Outcome State Fault Refusal :=
  accessReserved (0x04000 + off.toNat) w a s

/-- RSV_08000_0FFFF (R39). -/
def execRsv08000 (off : BitVec 15) (w : Width) (a : RsvAccess) (s : State) :
    Host.Outcome State Fault Refusal :=
  accessReserved (0x08000 + off.toNat) w a s

end Sys2Proof.Machine
end

