-- ==== Sys2Proof/Machine/Dispatch.lean ====
section
/-! DEFINITION. The meaning of every instruction, one arm each. -/

namespace Sys2Proof.Machine

def exec (i : Instr) (s : State) : Host.Outcome State Fault Refusal :=
  match i with
  | .nop => Sys2Proof.Machine.execNop s
  | .init => Sys2Proof.Machine.execInit s
  | .clear => Sys2Proof.Machine.execClear s
  | .buildPal => Sys2Proof.Machine.execBuildPal s
  | .step => Sys2Proof.Machine.execStep s
  | .render => Sys2Proof.Machine.execRender s
  | .effect => Sys2Proof.Machine.execEffect s
  | .rdId w => Sys2Proof.Machine.execRdId w s
  | .wrId w v => Sys2Proof.Machine.execWrId w v s
  | .rdGeom w => Sys2Proof.Machine.execRdGeom w s
  | .wrGeom w v => Sys2Proof.Machine.execWrGeom w v s
  | .rdCmd w => Sys2Proof.Machine.execRdCmd w s
  | .wrCmd w v => Sys2Proof.Machine.execWrCmd w v s
  | .rdStatus w => Sys2Proof.Machine.execRdStatus w s
  | .wrStatus w v => Sys2Proof.Machine.execWrStatus w v s
  | .rdIrqEn w => Sys2Proof.Machine.execRdIrqEn w s
  | .wrIrqEn w v => Sys2Proof.Machine.execWrIrqEn w v s
  | .rdParam w => Sys2Proof.Machine.execRdParam w s
  | .wrParam w v => Sys2Proof.Machine.execWrParam w v s
  | .rdDstBase w => Sys2Proof.Machine.execRdDstBase w s
  | .wrDstBase w v => Sys2Proof.Machine.execWrDstBase w v s
  | .rdDstPitch w => Sys2Proof.Machine.execRdDstPitch w s
  | .wrDstPitch w v => Sys2Proof.Machine.execWrDstPitch w v s
  | .rdDstDepth w => Sys2Proof.Machine.execRdDstDepth w s
  | .wrDstDepth w v => Sys2Proof.Machine.execWrDstDepth w v s
  | .rdLastErr w => Sys2Proof.Machine.execRdLastErr w s
  | .wrLastErr w v => Sys2Proof.Machine.execWrLastErr w v s
  | .rdFaultAddr w => Sys2Proof.Machine.execRdFaultAddr w s
  | .wrFaultAddr w v => Sys2Proof.Machine.execWrFaultAddr w v s
  | .rdConvHsl w => Sys2Proof.Machine.execRdConvHsl w s
  | .conv w v => Sys2Proof.Machine.execConv w v s
  | .rdConvRgb w => Sys2Proof.Machine.execRdConvRgb w s
  | .wrConvRgb w v => Sys2Proof.Machine.execWrConvRgb w v s
  | .rdConvPix w => Sys2Proof.Machine.execRdConvPix w s
  | .wrConvPix w v => Sys2Proof.Machine.execWrConvPix w v s
  | .rdPal index w => Sys2Proof.Machine.execRdPal index w s
  | .wrPal index w v => Sys2Proof.Machine.execWrPal index w v s
  | .rdGrid off w => Sys2Proof.Machine.execRdGrid off w s
  | .wrGrid off w v => Sys2Proof.Machine.execWrGrid off w v s
  | .rsv0002C w a => Sys2Proof.Machine.execRsv0002C w a s
  | .rsv0003C w a => Sys2Proof.Machine.execRsv0003C w a s
  | .rsv00040 off w a => Sys2Proof.Machine.execRsv00040 off w a s
  | .rsv00080 off w a => Sys2Proof.Machine.execRsv00080 off w a s
  | .rsv00100 off w a => Sys2Proof.Machine.execRsv00100 off w a s
  | .rsv00200 off w a => Sys2Proof.Machine.execRsv00200 off w a s
  | .rsv00800 off w a => Sys2Proof.Machine.execRsv00800 off w a s
  | .rsv01000 off w a => Sys2Proof.Machine.execRsv01000 off w a s
  | .rsv02000 off w a => Sys2Proof.Machine.execRsv02000 off w a s
  | .rsv04000 off w a => Sys2Proof.Machine.execRsv04000 off w a s
  | .rsv08000 off w a => Sys2Proof.Machine.execRsv08000 off w a s

end Sys2Proof.Machine
end

