-- ==== Sys2Proof/Machine/Turns.lean ====
section
/-! DEFINITION. The turns of the agents: a host transaction at the slave port, a turn of the engine, the reset
input, and other agents of the system bus (20_memory.md R58, R62, R65; 70_reset_and_hazards.md R190). -/

namespace Sys2Proof.Machine

/-- A host transaction: decode it and run its meaning. A transaction that is no instruction still has the
effect the spec gives it: an illegal CMD word raises E_CMD (R75, R161), and an access that matches no row
is an illegal access, answered with an error response (R55; log 16). -/
def hostTurn (t : Txn) (s : State) : Host.Outcome State Fault Refusal :=
  match decode t with
  | .ok i => exec i s
  | .error (.illegalCommand v) => .next { raise .cmdIllegal (cmdOp v) s with reply := .done }
  | .error (.noRow _) => .next { s with reply := .error }

/-- The platform's answer to the engine's next pixel write where no turn says it: a free value for each
write (R56, R61; log 15). -/
def freeAnswer (s : State) : PortResponse :=
  match s.pos with
  | .blit i => if Config.freeResponse s.draws (s.pixelAddr i) then .ok else .error
  | .idle | .pal _ | .clear _ | .step _ | .finish => .ok

/-- The engine's own turn while nothing arrives from outside. A pixel write moves the counter of the free
values on. -/
def autonomousTurn (s : State) : State :=
  match s.pos with
  | .blit _ => engineTurn (freeAnswer s) (s.advanceDraws 1)
  | .idle | .pal _ | .clear _ | .step _ | .finish => engineTurn (freeAnswer s) s

/-- The state in which reset finds the block: a pixel write already issued landed as `inFlight` says
(R190, R191, U23; log 13). -/
def landInFlight (inFlight : Option PortResponse) (s : State) : State :=
  match inFlight, s.pos with
  | some r, .blit i =>
    if i < s.upperCells then (memWrite (s.pixelAddr i) (s.pixelValue i) r s).1 else s
  | _, _ => s

/-- The reset input (R190, R191): the registers take their reset values, the command in progress is
abandoned, the arrays become unspecified. The parameters, the system memory, the platform's caches and what
is still to come stay. -/
def resetTurn (inFlight : Option PortResponse) (s : State) : State :=
  { State.initial s.params with
    mem := (landInFlight inFlight s).mem, maintained := s.maintained, stale := (landInFlight inFlight s).stale
    turns := s.turns, agentData := s.agentData, draws := s.draws }

/-- Another agent stores a byte of system memory (R65). Inside the block's window an access is a host
transaction, so as this turn it does nothing (log 14). -/
def agentWriteTurn (a : Word) (v : Byte) (s : State) : State :=
  if s.inWindow a then s else { s with mem := Memory.write s.mem a.toNat v }

/-- The byte another agent reads (R64, R65): what memory holds where the master port's writes are coherent or
the platform's cache maintenance was performed after the last of them to that byte, a free value where neither
is so or where the content is not known (U22, U25; log 28). -/
def agentByte (a : Word) (s : State) : Byte :=
  if s.visible a then (Memory.read s.mem a.toNat).getD (Config.freeByte s.draws)
  else Config.freeByte s.draws

/-- Another agent reads a byte of system memory (R64, R65). -/
def agentReadTurn (a : Word) (s : State) : State :=
  if s.inWindow a then s else { s.advanceDraws 1 with agentData := agentByte a s }

/-- The host performs the platform's cache maintenance (R64), of every byte of memory (log 28). -/
def maintainTurn (s : State) : State := { s with maintained := true, stale := [] }

/-- One turn. -/
def takeTurn (t : Turn) (s : State) : Host.Outcome State Fault Refusal :=
  match t with
  | .host txn => hostTurn txn s
  | .engine r => .next (engineTurn r s)
  | .reset inFlight => .next (resetTurn inFlight s)
  | .agentWrite a v => .next (agentWriteTurn a v s)
  | .agentRead a => .next (agentReadTurn a s)
  | .maintain => .next (maintainTurn s)

end Sys2Proof.Machine
end

