-- ==== Sys2Proof/Machine/Step.lean ====
section
/-! DEFINITION. The step: one turn of one agent (20_memory.md R58, R62). -/

namespace Sys2Proof.Machine

/-- One step: the next turn, if the outside world has one; else the engine moves on its own, and an idle
block waits for a host access (R45, R190). -/
def step (s : State) : Host.Outcome State Fault Refusal :=
  match s.turns with
  | [] => .next (autonomousTurn s)
  | t :: rest => takeTurn t { s with turns := rest }

/-- The state with the operation of an opcode-table word presented as the next host transaction: this
stands for a host that issues it (log 3). A number that is no table word presents nothing. -/
def State.withFetchWord (s : State) (nbits w : Nat) : State :=
  match Txn.ofTableWord nbits w with
  | some t => { s with turns := .host t :: s.turns }
  | none => s

end Sys2Proof.Machine
end

