-- ==== Sys2Proof/Machine/Driver.lean ====
section
/-! DEFINITION. The host's side: the program lines and pseudo-operations of 30_encoding.md R78 and R79, and the
host procedures of 42_host_injection.md R120 to R125, as generators of host transactions. They are "rules
about a host agent, not about hardware"; no state belongs to them (log 20). -/

namespace Sys2Proof.Machine

/-- One line of a host program (R78). -/
inductive HostLine
  | wr (w : Width) (off : BitVec 17) (v : Word)
  | rd (w : Width) (off : BitVec 17)
  | poll (off : BitVec 17) (mask value : Word)
deriving DecidableEq, Repr

/-- The transaction of a line (R78); a poll repeats a 32-bit read. -/
def HostLine.txn : HostLine → Txn
  | .wr w off v => .mmio (writeKey off) w v
  | .rd w off => .mmio (readKey off) w 0
  | .poll off _ _ => .mmio (readKey off) .w32 0

/-- A line as a turn of the host. -/
def HostLine.turn (l : HostLine) : Turn := .host l.txn

/-- Whether a poll ends on a reply: `(t & MASK) = VAL` (R78). -/
def pollEnds (mask value : Word) : Reply → Bool
  | .data t => t &&& mask == value
  | .none | .done | .error => false

/-! ## Pseudo-operations (R79) -/

/-- `cmd OP`. -/
def cmdLine (c : Command) : HostLine := .wr .w32 0x008 (c.opcode.setWidth 32)

/-- `wait`. -/
def waitLine : HostLine := .poll 0x00C 0x1 0x0

/-- `run OP`. -/
def runLines (c : Command) : List HostLine := [cmdLine c, waitLine]

/-- `setparam M, D`. -/
def setParamLine (m d : Half) : HostLine := .wr .w32 0x014 (d ++ m)

/-- `setdst B, P`. -/
def setDstLines (b p : Word) : List HostLine :=
  [.wr .w32 0x018 b, .wr .w32 0x01C p, .wr .w32 0x020 16]

/-- `ack MASK`. -/
def ackLine (mask : Word) : HostLine := .wr .w32 0x00C mask

/-- The window offset of cell (x, y), `0x10000 + Y × GRID_W + X` (R51, R79). -/
def cellOffset (p : Params) (x y : Nat) : BitVec 17 := BitVec.ofNat 17 (0x10000 + y * p.gridW + x)

/-- `setcell X, Y, V`. -/
def setCellLine (p : Params) (x y : Nat) (v : Byte) : HostLine :=
  .wr .w8 (cellOffset p x y) (v.setWidth 32)

/-- `getcell X, Y`. -/
def getCellLine (p : Params) (x y : Nat) : HostLine := .rd .w8 (cellOffset p x y)

/-- `fire_init`. -/
def fireInitLines : List HostLine := runLines .init

/-- `fire_clear`. -/
def fireClearLines : List HostLine := runLines .clear

/-- `fire_effect B, P, M, D`. -/
def fireEffectLines (b p : Word) (m d : Half) : List HostLine :=
  setDstLines b p ++ [setParamLine m d] ++ runLines .effect

/-! ## Host procedures -/

/-- A mix of widths that writes the cells of the flame bed from column `x` on, each once, every write legal
at its offset (R121, R55). -/
def legalMix (p : Params) : List Width → Nat → Bool
  | [], x => x == p.gridW
  | w :: rest, x =>
    legalSized (cellOffset p x (p.gridH - 1)).toNat w && legalMix p rest (x + widthBytes w)

/-- The data of a `w`-wide write of the values drawn for the columns from `x` on (R52). -/
def feedData (draw : Nat → Byte) (w : Width) (x : Nat) : Word :=
  assemble fun k => if k < widthBytes w then draw (x + k) else 0

/-- The writes of `feed()` from column `x` on, one for each width of the mix. -/
def feedFrom (p : Params) (draw : Nat → Byte) : List Width → Nat → List HostLine
  | [], _ => []
  | w :: rest, x =>
    .wr w (cellOffset p x (p.gridH - 1)) (feedData draw w x) :: feedFrom p draw rest (x + widthBytes w)

/-- `feed()` (R121): the cells of the flame bed, written with a mix of widths the host chooses (any with
`legalMix p mix 0`); `draw x` is the x-th value drawn, any value (U7). -/
def feedLines (p : Params) (mix : List Width) (draw : Nat → Byte) : List HostLine := feedFrom p draw mix 0

/-- Row `r` of a font column byte (R122): bit r with bit 0 on top, or bit 7 - r (`FONT_BIT_ORDER`). -/
def fontBit (order : FontBitOrder) (column : Byte) (r : Nat) : Bool :=
  match order with
  | .lsbTop => column.getLsbD r
  | .msbTop => column.getLsbD (7 - r)

/-- The font entry of a glyph code: `(glyph & 0x7F) + 1` (R123). -/
def glyphIndex (glyph : Byte) : Nat := (glyph &&& 0x7F).toNat + 1

/-- Whether a glyph placed at (x0, y0) is dropped whole (R123). -/
def glyphDropped (p : Params) (x0 y0 : Int) : Bool :=
  x0 < 0 || y0 < 0 || (p.gridW : Int) - 8 < x0 || (p.gridH : Int) - 8 < y0

/-- The intensity of a glyph: a value from 1 to 255 (R123, U8). -/
abbrev GlyphIntensity := { v : Byte // v ≠ 0 }

/-- `put_char(glyph, x0, y0, font)` (R123): every "on" bit sets its cell to the glyph's one intensity, the
value drawn. `font n c` is column c of entry n. -/
def putCharLines (p : Params) (order : FontBitOrder) (font : Nat → Nat → Byte) (glyph : Byte)
    (x0 y0 : Int) (intensity : GlyphIntensity) : List HostLine :=
  if glyphDropped p x0 y0 then []
  else (List.range 8).flatMap fun c =>
    ((List.range 8).filter fun r => fontBit order (font (glyphIndex glyph) c) r).map fun r =>
      setCellLine p (x0.toNat + c) (y0.toNat + r) intensity.val

/-- `put_string(text, x0, y0, font)` (R124) from character `i` on: an advance of 7 cells, with the wobble
and the intensity of each character drawn (U8, U9). -/
def putStringLines (p : Params) (order : FontBitOrder) (font : Nat → Nat → Byte) (x0 y0 : Int)
    (wobble : Nat → Int) (intensity : Nat → GlyphIntensity) : Nat → List Byte → List HostLine
  | _, [] => []
  | i, c :: rest =>
    putCharLines p order font c (x0 + 7 * i) (y0 + wobble i) (intensity i) ++
      putStringLines p order font x0 y0 wobble intensity (i + 1) rest

/-- One frame of the host's loop (R125): feed, an optional text overlay, `fire_effect`. -/
def frameLines (p : Params) (mix : List Width) (draw : Nat → Byte) (overlay : List HostLine)
    (b pitch : Word) (m d : Half) : List HostLine :=
  feedLines p mix draw ++ overlay ++ fireEffectLines b pitch m d

end Sys2Proof.Machine
end

