-- ==== Sys2Proof/Safety.lean ====
section
/-! DEFINITION. What counts as a good state, in the terms the statements use: the canonical form of the
stored arrays, the reserved bits of STATUS, the validity of the arrays (10_state.md R42), and the engine's
position (R47), together an invariant of the machine; and the error-free states of
93_implementation_defined.md ("an error recorded in STATUS that every claim takes as absent"). -/

namespace Sys2Proof.Machine

/-- No error bit of STATUS is set (93: the treatment `fault`). -/
def State.errorFree (s : State) : Bool := s.status &&& statusErrors == 0

/-- Every stored array is in canonical form. -/
def StorageWf (s : State) : Prop :=
  Memory.wf systemSpace s.mem ∧ Memory.wf s.cells s.grid ∧ Memory.wf 256 s.pal ∧
    Memory.wf s.cells s.snap ∧ AddressesWf systemSpace s.stale

/-- The reserved bits of STATUS read 0 (R27). -/
def StatusWf (s : State) : Prop := s.status &&& ~~~statusDefined = 0

/-- Every cell of an array of grid cells is known. -/
def CellsKnown (cells : Nat) (m : List Host.Cell) : Prop := ∀ k, k < cells → (Memory.read m k).isSome

/-- Every palette entry holds the value of R104. -/
def PaletteBuilt (s : State) : Prop := ∀ x : Byte, Memory.read s.pal x.toNat = some (s.builtEntry x)

/-- What the validity bits of R42 promise. -/
def ArraysValid (s : State) : Prop :=
  (s.gridValid = true → CellsKnown s.cells s.grid) ∧ (s.palValid = true → PaletteBuilt s)

/-- The latched destination is even (R57). -/
def DestinationEven (s : State) : Prop :=
  s.lat.base.toNat % 2 = 0 ∧ s.lat.pitch.toNat % 2 = 0

/-- The engine's position fits BUSY, the accepted command and the arrays. -/
def EngineWf (s : State) : Prop :=
  match s.pos with
  | .idle => s.busy = false
  | .pal i =>
    s.busy = true ∧ (s.lat.op = .init ∨ s.lat.op = .buildPal) ∧ i ≤ 256 ∧
      ∀ x : Byte, x.toNat < i → Memory.read s.pal x.toNat = some (s.builtEntry x)
  | .clear i =>
    s.busy = true ∧ (s.lat.op = .init ∨ s.lat.op = .clear) ∧ i ≤ s.cells ∧
      (∀ k, k < i → Memory.read s.grid k = some 0) ∧ (s.lat.op = .init → PaletteBuilt s)
  | .step i =>
    s.busy = true ∧ (s.lat.op = .step ∨ s.lat.op = .effect) ∧ i ≤ s.upperCells ∧
      s.gridValid = true ∧ CellsKnown s.cells s.snap ∧ s.lat.div ≠ 0 ∧
      (s.lat.op = .effect → s.palValid = true ∧ DestinationEven s)
  | .blit i =>
    s.busy = true ∧ (s.lat.op = .render ∨ s.lat.op = .effect) ∧ i ≤ s.upperCells ∧
      s.gridValid = true ∧ s.palValid = true ∧ DestinationEven s
  | .finish =>
    s.busy = true ∧ (s.lat.op = .init → PaletteBuilt s) ∧ (s.lat.op = .buildPal → PaletteBuilt s) ∧
      (s.lat.op = .init ∨ s.lat.op = .clear → CellsKnown s.cells s.grid)

/-- The invariant of the machine. -/
structure Inv (s : State) : Prop where
  params : s.params.Valid
  storage : StorageWf s
  status : StatusWf s
  arrays : ArraysValid s
  engine : EngineWf s
  cause : s.lastErrCause.toNat ≤ 9

end Sys2Proof.Machine
end

