-- ==== Sys2Proof/Certificates/Slice0/Obligations.lean ====
section
/-! DEFINITION. The statements for the provers, from the numbered rules of spec/. The terms they share come first,
written from the rules and not from the model's own operations. -/

namespace Sys2Proof.Claims

open Sys2Proof.Machine

/-- `k` steps of the machine from `s` end in `u`. -/
def runsTo (k : Nat) (s u : State) : Prop := Host.Core.run Sys2Proof.core k s = .next u

/-- `s` with nothing left to come from outside: the engine moves alone. -/
def alone (s : State) : State := { s with turns := [] }

/-- `s` with `n` engine turns to come, every pixel write answered OK. -/
def answeredOk (n : Nat) (s : State) : State := { s with turns := List.replicate n (.engine .ok) }

/-- `s` with the answer "OK, data `d`" to the last host transaction. -/
def answered (s : State) (d : Word) : State := { s with reply := .data d }

/-- The next turn of `s` is the reset input. -/
def resetNext (s : State) : Prop := ∃ f rest, s.turns = .reset f :: rest

/-- The engine moves next: at an engine turn, or because nothing comes from outside. -/
def engineNext (s : State) : Prop := s.turns = [] ∨ ∃ r rest, s.turns = .engine r :: rest

/-- A host transaction comes next. -/
def hostNext (s : State) (t : Txn) : Prop := ∃ rest, s.turns = .host t :: rest

/-- The accesses R55 calls legal: 32 bits aligned in register space and the palette window, naturally
aligned 8, 16 or 32 bits from 0x800 on. -/
def legalAccess (off : Nat) (w : Width) : Prop :=
  (off < 0x800 ∧ w = .w32 ∧ off % 4 = 0) ∨
    (0x800 ≤ off ∧ (w = .w8 ∨ (w = .w16 ∧ off % 2 = 0) ∨ (w = .w32 ∧ off % 4 = 0)))

/-- The naturally aligned grid window accesses of R146 and R147: `n` bytes at window byte `i`. -/
def gridAccess (i n : Nat) (w : Width) : Prop :=
  (w = .w8 ∧ n = 1) ∨ (w = .w16 ∧ n = 2 ∧ i % 2 = 0) ∨ (w = .w32 ∧ n = 4 ∧ i % 4 = 0)

/-- The reserved rows of the table: the offset, width and direction of an access (R39, R74). -/
def reservedAt : Instr → Option (Nat × Width × RsvAccess)
  | .rsv0002C w a => some (0x0002C, w, a)
  | .rsv0003C w a => some (0x0003C, w, a)
  | .rsv00040 off w a => some (0x00040 + off.toNat, w, a)
  | .rsv00080 off w a => some (0x00080 + off.toNat, w, a)
  | .rsv00100 off w a => some (0x00100 + off.toNat, w, a)
  | .rsv00200 off w a => some (0x00200 + off.toNat, w, a)
  | .rsv00800 off w a => some (0x00800 + off.toNat, w, a)
  | .rsv01000 off w a => some (0x01000 + off.toNat, w, a)
  | .rsv02000 off w a => some (0x02000 + off.toNat, w, a)
  | .rsv04000 off w a => some (0x04000 + off.toNat, w, a)
  | .rsv08000 off w a => some (0x08000 + off.toNat, w, a)
  | _ => none

/-- An array the command reads is not valid (R140). -/
def missesArray (c : Command) (s : State) : Prop :=
  ((c = .step ∨ c = .render ∨ c = .effect) ∧ s.status.getLsbD 1 = false) ∨
    ((c = .render ∨ c = .effect) ∧ s.status.getLsbD 2 = false)

/-- The depth check of R140 fails. -/
def wrongDepth (c : Command) (s : State) : Prop := (c = .render ∨ c = .effect) ∧ s.dstDepth.toNat ≠ 16

/-- The alignment check of R140 fails. -/
def oddDestination (c : Command) (s : State) : Prop :=
  (c = .render ∨ c = .effect) ∧ (s.dstBase.toNat % 2 = 1 ∨ s.dstPitch.toNat % 2 = 1)

/-- The divider check of R140 fails: PARAM.DIV = 0. -/
def zeroDivider (c : Command) (s : State) : Prop :=
  (c = .step ∨ c = .effect) ∧ s.param.toNat / 0x10000 = 0

/-- Every acceptance check of R140 passes. -/
def acceptable (c : Command) (s : State) : Prop :=
  ¬ missesArray c s ∧ ¬ wrongDepth c s ∧ ¬ oddDestination c s ∧ ¬ zeroDivider c s

/-- The word of R71 decodes to the command, and on a busy block the command is refused with E_CMD, cause 2,
and changes nothing else (R140, R161). The bus answers OK: DEDUCED, log 26. -/
def encodedAndRefusedWhileBusy (c : Command) (word : Word) : Prop :=
  decode (.cmd word) = .ok c.instr ∧
    ∀ s : State, s.busy = true → exec c.instr s =
      .next { s with status := s.status ||| 0x00010000, lastErrOp := c.opcode, lastErrCause := 2,
                     reply := .done }

/-- The operands R72 latches. -/
def latched (c : Command) (s : State) : Latches :=
  { op := c, mult := BitVec.ofNat 16 s.param.toNat, div := BitVec.ofNat 16 (s.param.toNat / 0x10000),
    base := s.dstBase, pitch := s.dstPitch }

/-- The heat of cell (x, y), 0 where it is not known. -/
def heat (s : State) (y x : Nat) : Nat :=
  match Memory.read s.grid (y * s.params.gridW + x) with
  | some b => b.toNat
  | none => 0

/-- The next generation's exact value of cell (x, y) (R111, R113, R114): the samples (x-1, y+1), (x, y+1),
(x+1, y+1) with horizontal wraparound and (x, y+2) with vertical wraparound, times MULT over DIV. -/
def nextValue (s : State) (y x : Nat) : Nat :=
  let w := s.params.gridW
  let h := s.params.gridH
  (heat s (y + 1) ((x + w - 1) % w) + heat s (y + 1) x + heat s (y + 1) ((x + 1) % w) +
    heat s ((y + 2) % h) x) * (s.param.toNat % 0x10000) / (s.param.toNat / 0x10000)

/-- Some cell of rows 0 to GRID_H-2 has a next value above 255. -/
def overflows (s : State) : Prop :=
  ∃ y x, y + 1 < s.params.gridH ∧ x < s.params.gridW ∧ 255 < nextValue s y x

/-- The pixel address of cell (x, y) (R131), from DST_BASE and DST_PITCH. -/
def pixelAt (s : State) (y x : Nat) : Word :=
  BitVec.ofNat 32 (s.dstBase.toNat + s.dstPitch.toNat * y + 2 * x)

/-- Another agent reads what memory holds at `a` (R64): the platform is coherent, or the host's cache
maintenance came after the block's last write to that byte (log 28). -/
abbrev upToDate (s : State) (a : Word) : Prop :=
  s.params.dmaCoherent = true ∨ (s.maintained = true ∧ a.toNat ∉ s.stale)

/-- No pixel lies in the block's own window. -/
def outsideWindow (s : State) : Prop :=
  ∀ y x, y + 1 < s.params.gridH → x < s.params.gridW →
    (pixelAt s y x).toNat < s.params.fireBase.toNat ∨
      s.params.fireBase.toNat + 0x20000 ≤ (pixelAt s y x).toNat

/-- No pixel after that of (x, y) in the order of R132 has its address. -/
def lastAtItsAddress (s : State) (y x : Nat) : Prop :=
  ∀ y' x', (y < y' ∨ (y = y' ∧ x < x')) → y' + 1 < s.params.gridH → x' < s.params.gridW →
    pixelAt s y' x' ≠ pixelAt s y x

/-- `pack_rgb565(hsl_to_rgb(h // 3, 255, min(255, 2h)))` of a heat value (R104, R134), for the converter of
the block with parameters `p` (R8). -/
def packedColor (p : Params) (h : Nat) : Half :=
  let c := convertWith p.converter (BitVec.ofNat 8 (h / 3)) 255 (BitVec.ofNat 8 (min 255 (2 * h)))
  packRgb565 c.1 c.2.1 c.2.2

/-- An idle block with a known grid and a built palette, whose operands `c` accepts (R140, R192). -/
def readyFor (c : Command) (s : State) : Prop :=
  s.params.Valid ∧ s.busy = false ∧ CellsKnown s.cells s.grid ∧ PaletteBuilt s ∧ acceptable c s

end Sys2Proof.Claims

open Sys2Proof Sys2Proof.Machine Sys2Proof.Claims

/-! ## Decoding and the step -/

/-- A host transaction that decodes to a well-formed instruction is run by the next step: `step` is `exec`
of it, with the transaction taken off the list. Model's convention: log 3 (the list of turns). -/
def Obligations.StepRunsTheDecodedOperation : Prop :=
  ∀ (s : State) (t : Txn) (i : Instr) (rest : List Turn), s.turns = .host t :: rest → decode t = .ok i →
    i.wellFormed = true → step s = exec i { s with turns := rest }

/-- Words written out bit by bit from R71 and the keys of R74 decode to the operations they stand for. The
last one, a misaligned key that matches no row, is the MODEL'S CHOICE, log 16 (DEDUCED from R55). -/
def Obligations.SampleWordsDecode : Prop :=
  decode (.cmd 0b00000000000000000000000000000100) = .ok .step ∧
  decode (.cmd 0b00000000000000000000000000000110) = .ok .effect ∧
  decode (.cmd 0b00000000000000000000000000000111) = .error (.illegalCommand 7) ∧
  decode (.mmio 0b1_00000000000010100 .w32 0x00040001) = .ok (.wrParam .w32 0x00040001) ∧
  decode (.mmio 0b0_00000000000001100 .w32 0) = .ok (.rdStatus .w32) ∧
  decode (.mmio 0b1_00000000000110000 .w32 0x0080FF00) = .ok (.conv .w32 0x0080FF00) ∧
  decode (.mmio 0b0_00000010100000000 .w32 0) = .ok (.rdPal 64 .w32) ∧
  decode (.mmio 0b1_10000000000001111 .w8 200) = .ok (.wrGrid 0x000F .w8 200) ∧
  decode (.mmio 0b0_00000000000101100 .w32 0) = .ok (.rsv0002C .w32 .read) ∧
  decode (.mmio 0b1_01000000000000001 .w8 5) = .ok (.rsv08000 1 .w8 (.write 5)) ∧
  decode (.mmio 0b0_00000000000000010 .w32 0) = .error (.noRow 2)

/-- Decoding the encoding of a well-formed instruction gives the instruction back, with every operand at
every value its encoding admits. -/
def Obligations.DecodeOfEncodeIsTheInstruction : Prop :=
  ∀ i : Instr, i.wellFormed = true → decode (encode i) = .ok i

/-- Encoding the instruction an MMIO transaction decodes to gives the transaction back (a read's data
lines, which carry nothing, as 0). -/
def Obligations.EncodeOfDecodeIsTheTransaction : Prop :=
  ∀ (key : BitVec 18) (w : Width) (v : Word) (i : Instr), decode (.mmio key w v) = .ok i →
    encode i = .mmio key w (if key.getLsbD 17 then v else 0)

/-- A key that matches a row of spec/opcode_table.json decodes to that row's operation, and a key the
decoder rejects matches no row. -/
def Obligations.DecoderFollowsTheOpcodeTable : Prop :=
  ∀ (key : BitVec 18) (w : Width) (v : Word),
    (∀ r ∈ mmioRows, r.matchesKey key = true →
      ∃ i, decode (.mmio key w v) = .ok i ∧ i.mnemonic = r.mnemonic ∧ i.width = w) ∧
    (∀ e, decode (.mmio key w v) = .error e →
      e = .noRow key ∧ ∀ r ∈ mmioRows, r.matchesKey key = false)

/-- R75: an illegal CMD word is refused with E_CMD and cause 1, busy or not, with no other effect, in
either format; any other word names the command of R71. That the bus answers a refused word OK is the
MODEL'S CHOICE, log 26 (DEDUCED). -/
def Obligations.CommandWordDecodingIsTotal : Prop :=
  (∀ (v : Word) (s : State) (rest : List Turn), (16 ≤ v.toNat ∨ 7 ≤ v.toNat % 16) →
    s.turns = .host (.cmd v) :: rest →
    step s = .next { s with turns := rest, status := s.status ||| 0x00010000, lastErrOp := v.setWidth 4,
                            lastErrCause := 1, reply := .done }) ∧
  (∀ (v : Word) (s : State), (16 ≤ v.toNat ∨ 7 ≤ v.toNat % 16) →
    exec (.wrCmd .w32 v) s =
      .next { s with status := s.status ||| 0x00010000, lastErrOp := v.setWidth 4, lastErrCause := 1,
                     reply := .done }) ∧
  decode (.cmd 0) = .ok .nop ∧ decode (.cmd 1) = .ok .init ∧ decode (.cmd 2) = .ok .clear ∧
  decode (.cmd 3) = .ok .buildPal ∧ decode (.cmd 4) = .ok .step ∧ decode (.cmd 5) = .ok .render ∧
  decode (.cmd 6) = .ok .effect

/-- A 32-bit write of a command's word to CMD is that command: the rows of format CMD and the row WR_CMD
are two names of one transaction (R70). -/
def Obligations.WriteOfCommandWordIsTheCommand : Prop :=
  ∀ s : State,
    exec (.wrCmd .w32 0) s = exec .nop s ∧ exec (.wrCmd .w32 1) s = exec .init s ∧
    exec (.wrCmd .w32 2) s = exec .clear s ∧ exec (.wrCmd .w32 3) s = exec .buildPal s ∧
    exec (.wrCmd .w32 4) s = exec .step s ∧ exec (.wrCmd .w32 5) s = exec .render s ∧
    exec (.wrCmd .w32 6) s = exec .effect s

/-! ## Registers -/

/-- A 32-bit read of each register returns its value, reserved bits 0, and changes nothing but the
answer (R24 to R38, R145). Where the reserved bits of STATUS are 0, which Inv says and every step keeps, they
are 0 in the answer to RD_STATUS. -/
def Obligations.RegisterReadsReturnTheirValue : Prop :=
  ∀ s : State, s.params.Valid →
    exec (.rdId .w32) s = .next { s with reply := .data 0x46495245 } ∧
    exec (.rdGeom .w32) s =
      .next { s with reply := .data (BitVec.ofNat 32 (0x10000 * s.params.gridH + s.params.gridW)) } ∧
    exec (.rdCmd .w32) s = .next { s with reply := .data 0 } ∧
    exec (.rdStatus .w32) s = .next { s with reply := .data s.status } ∧
    (StatusWf s → ∃ d, exec (.rdStatus .w32) s = .next (answered s d) ∧
      ∀ b, (3 ≤ b ∧ b ≤ 7) ∨ (9 ≤ b ∧ b ≤ 15) ∨ 24 ≤ b → d.getLsbD b = false) ∧
    exec (.rdIrqEn .w32) s = .next { s with reply := .data (BitVec.ofNat 32 s.irqEn.toNat) } ∧
    exec (.rdParam .w32) s = .next { s with reply := .data s.param } ∧
    exec (.rdDstBase .w32) s = .next { s with reply := .data s.dstBase } ∧
    exec (.rdDstPitch .w32) s = .next { s with reply := .data s.dstPitch } ∧
    exec (.rdDstDepth .w32) s = .next { s with reply := .data (BitVec.ofNat 32 s.dstDepth.toNat) } ∧
    exec (.rdLastErr .w32) s =
      .next (answered s (BitVec.ofNat 32 (0x100 * s.lastErrOp.toNat + s.lastErrCause.toNat))) ∧
    exec (.rdFaultAddr .w32) s = .next { s with reply := .data s.faultAddr } ∧
    exec (.rdConvHsl .w32) s = .next { s with reply := .data (BitVec.ofNat 32 s.convHsl.toNat) } ∧
    ∀ r g b : Byte,
      convertWith s.params.converter (BitVec.ofNat 8 s.convHsl.toNat) (BitVec.ofNat 8 (s.convHsl.toNat / 0x100))
        (BitVec.ofNat 8 (s.convHsl.toNat / 0x10000)) = (r, g, b) →
      exec (.rdConvRgb .w32) s =
        .next (answered s (BitVec.ofNat 32 (0x10000 * b.toNat + 0x100 * g.toNat + r.toNat))) ∧
      exec (.rdConvPix .w32) s =
        .next (answered s (BitVec.ofNat 32 (0x10000 * (swap16 (packRgb565 r g b)).toNat +
          (packRgb565 r g b).toNat)))

/-- A 32-bit write to a read-only register or to the palette window is ignored: nothing changes but the
answer, busy or not (R24, R25, R34, R35, R37, R38, R148). -/
def Obligations.ReadOnlyRegistersIgnoreWrites : Prop :=
  ∀ (s : State) (v : Word) (i : Byte),
    exec (.wrId .w32 v) s = .next { s with reply := .done } ∧
    exec (.wrGeom .w32 v) s = .next { s with reply := .done } ∧
    exec (.wrLastErr .w32 v) s = .next { s with reply := .done } ∧
    exec (.wrFaultAddr .w32 v) s = .next { s with reply := .done } ∧
    exec (.wrConvRgb .w32 v) s = .next { s with reply := .done } ∧
    exec (.wrConvPix .w32 v) s = .next { s with reply := .done } ∧
    exec (.wrPal i .w32 v) s = .next { s with reply := .done }

/-- A 32-bit write stores the writable bits of IRQ_EN, PARAM, DST_BASE, DST_PITCH, DST_DEPTH or CONV_HSL
and changes nothing else but the answer; the register then reads back those bits, the others 0. -/
def Obligations.WritableRegistersReadBackTheirBits : Prop :=
  ∀ (s : State) (v : Word),
    (∃ t, exec (.wrIrqEn .w32 v) s = .next t ∧ t = { s with irqEn := t.irqEn, reply := .done } ∧
      exec (.rdIrqEn .w32) t = .next { t with reply := .data (v &&& 0x3) }) ∧
    (∃ t, exec (.wrParam .w32 v) s = .next t ∧ t = { s with param := t.param, reply := .done } ∧
      exec (.rdParam .w32) t = .next { t with reply := .data v }) ∧
    (∃ t, exec (.wrDstBase .w32 v) s = .next t ∧ t = { s with dstBase := t.dstBase, reply := .done } ∧
      exec (.rdDstBase .w32) t = .next { t with reply := .data v }) ∧
    (∃ t, exec (.wrDstPitch .w32 v) s = .next t ∧ t = { s with dstPitch := t.dstPitch, reply := .done } ∧
      exec (.rdDstPitch .w32) t = .next { t with reply := .data v }) ∧
    (∃ t, exec (.wrDstDepth .w32 v) s = .next t ∧ t = { s with dstDepth := t.dstDepth, reply := .done } ∧
      exec (.rdDstDepth .w32) t = .next { t with reply := .data (v &&& 0xFF) }) ∧
    (∃ t, exec (.conv .w32 v) s = .next t ∧ t = { s with convHsl := t.convHsl, reply := .done } ∧
      exec (.rdConvHsl .w32) t = .next { t with reply := .data (v &&& 0xFFFFFF) })

/-- R28: a write of `v` to STATUS clears exactly the W1C bits 8 and 16 to 23 that `v` has set, busy or
not, and changes nothing else but the answer; and where the engine's next turn sets a bit (DONE, OVF,
E_BUS, or any other) right after the clear, the set wins. -/
def Obligations.StatusWriteOneToClear : Prop :=
  (∀ (s : State) (v : Word), ∃ t, exec (.wrStatus .w32 v) s = .next t ∧
    t = { s with status := t.status, reply := .done } ∧
    ∀ b, b < 32 → t.status.getLsbD b =
      if (b = 8 ∨ (16 ≤ b ∧ b ≤ 23)) ∧ v.getLsbD b = true then false else s.status.getLsbD b) ∧
  (∀ (s : State) (v : Word) (r : PortResponse),
    s.turns = [.host (.mmio 0b1_00000000000001100 .w32 v), .engine r] →
    ∃ u, runsTo 2 s u ∧
      (s.pos = .finish → u.status.getLsbD 8 = true) ∧
      (∀ i, s.pos = .step i → s.upperCells ≤ i → s.ovfSeen = true → u.status.getLsbD 23 = true) ∧
      (∀ i, s.pos = .blit i → i < s.upperCells → s.inWindow (s.pixelAddr i) = false → r = .error →
        u.status.getLsbD 21 = true) ∧
      (∀ b, (engineTurn r { s with status := s.status &&& ~~~0x00FF0100 }).status.getLsbD b = true →
        u.status.getLsbD b = true))

/-- R39: a legal access to a reserved offset reads 0 or is ignored, raises no error and has no side
effect, busy or not. -/
def Obligations.ReservedOffsetsReadZeroAndIgnoreWrites : Prop :=
  ∀ (s : State) (i : Instr) (off : Nat) (w : Width) (a : RsvAccess),
    reservedAt i = some (off, w, a) → legalAccess off w →
    exec i s = .next { s with reply := match a with | .read => .data 0 | .write _ => .done }

/-- R55: an access with an illegal width or alignment gets an error response and changes nothing else,
whatever its key; a legal one is not answered with an error. That this holds of a refused CMD write too is the
MODEL'S CHOICE, log 26 (DEDUCED). -/
def Obligations.IllegalAccessGetsAnErrorResponse : Prop :=
  ∀ (key : BitVec 18) (w : Width) (v : Word) (s : State) (rest : List Turn),
    s.turns = .host (.mmio key w v) :: rest →
    (¬ legalAccess (key.toNat % 0x20000) w →
      step s = .next { s with turns := rest, reply := .error }) ∧
    (legalAccess (key.toNat % 0x20000) w → ∃ t, step s = .next t ∧ t.reply ≠ .error)

/-! ## Acceptance and refusal -/

/-- R161: an illegal word records cause 1 whether or not the block is busy, a legal word written while
busy records cause 2; either way nothing else changes, so the command in progress goes on. That the bus answers
OK is the MODEL'S CHOICE, log 26 (DEDUCED). -/
def Obligations.IllegalOrBusyCommandIsDiscarded : Prop :=
  (∀ (s : State) (v : Word), (16 ≤ v.toNat ∨ 7 ≤ v.toNat % 16) →
    exec (.wrCmd .w32 v) s =
      .next { s with status := s.status ||| 0x00010000, lastErrOp := v.setWidth 4, lastErrCause := 1,
                     reply := .done }) ∧
  (∀ (s : State) (c : Command), s.busy = true →
    exec c.instr s =
      .next { s with status := s.status ||| 0x00010000, lastErrOp := c.opcode, lastErrCause := 2,
                     reply := .done }) ∧
  (∃ t, exec (.wrCmd .w32 0x7) State.reset = .next t ∧ t.status = 0x00010000 ∧ t.lastErr = 0x00000701)

/-- R162: a command refused at acceptance sets the STATUS bit of every failing check, records its opcode
and the smallest cause, and changes nothing else; FAULT_ADDR is unchanged. That the bus answers OK is the
MODEL'S CHOICE, log 26 (DEDUCED). -/
def Obligations.RefusalSetsEveryFailingBit : Prop :=
  (∀ (c : Command) (s : State), s.busy = false → ¬ acceptable c s →
    ∃ t, exec c.instr s = .next t ∧
      t = { s with status := t.status, lastErrOp := c.opcode, lastErrCause := t.lastErrCause,
                   reply := .done } ∧
      (∀ b, b < 32 → (t.status.getLsbD b = true ↔
        s.status.getLsbD b = true ∨ (b = 17 ∧ missesArray c s) ∨ (b = 18 ∧ wrongDepth c s) ∨
          (b = 19 ∧ oddDestination c s) ∨ (b = 20 ∧ zeroDivider c s))) ∧
      (missesArray c s → t.lastErrCause = 3) ∧
      (¬ missesArray c s → wrongDepth c s → t.lastErrCause = 4) ∧
      (¬ missesArray c s → ¬ wrongDepth c s → oddDestination c s → t.lastErrCause = 5) ∧
      (¬ missesArray c s → ¬ wrongDepth c s → ¬ oddDestination c s → t.lastErrCause = 6)) ∧
  (∃ t, exec .render { State.reset with dstDepth := 8, dstBase := 1 } = .next t ∧
    t.status = 0x000E0000 ∧ t.lastErr = 0x00000503)

/-- R72, R140: on an idle block whose checks pass, each command is accepted: the operands are latched
from the registers, BUSY becomes 1, the engine starts the command at its first element, a STEP or EFFECT
takes its snapshot, and nothing else changes but the answer. The same for a 32-bit write of the command's
word to CMD. -/
def Obligations.AcceptanceLatchesOperandsAndStartsTheEngine : Prop :=
  ∀ (c : Command) (s : State), s.busy = false → acceptable c s →
    exec (.wrCmd .w32 (c.opcode.setWidth 32)) s = exec c.instr s ∧ exec c.instr s = .next
      { s with
        status := s.status ||| 0x00000001
        lat := latched c s
        pos := match c with
          | .nop => .finish
          | .init => .pal 0
          | .clear => .clear 0
          | .buildPal => .pal 0
          | .step => .step 0
          | .render => .blit 0
          | .effect => .step 0
        snap := if c = .step ∨ c = .effect then s.grid else s.snap
        ovfSeen := if c = .step ∨ c = .effect then false else s.ovfSeen
        reply := .done }

/-! ## Commands run to completion -/

/-- R142: NOP on an idle block is accepted and completes: BUSY comes and goes, DONE is set, nothing else
of the block changes but its latches; from reset STATUS is then 0x00000100. On a busy block it is refused
(R140, R161; the bus answer OK there is the MODEL'S CHOICE, log 26). -/
def Obligations.NopSetsDoneAndNothingElse : Prop :=
  encodedAndRefusedWhileBusy .nop 0x00000000 ∧
  (∀ s : State, s.busy = false →
    ∃ n t u, exec .nop (alone s) = .next t ∧ t.busy = true ∧ runsTo n t u ∧
      u = { alone s with status := s.status ||| 0x00000100, lat := latched .nop s, pos := .idle,
                         reply := .done }) ∧
  (∃ n t u, exec .nop State.reset = .next t ∧ runsTo n t u ∧ u.status = 0x00000100 ∧ u.pos = .idle)

/-- R110: CLEAR on an idle block is accepted, zeroes every cell, the bottom row too, sets GRID_VALID and
DONE, and leaves the palette, the memory and every other register as they were. On a busy block it is
refused (R140, R161; the bus answer OK there is the MODEL'S CHOICE, log 26). -/
def Obligations.ClearZeroesEveryCell : Prop :=
  encodedAndRefusedWhileBusy .clear 0x00000002 ∧
  ∀ s : State, s.busy = false →
    ∃ n t u, exec .clear (alone s) = .next t ∧ t.busy = true ∧ runsTo n t u ∧
      u = { alone s with grid := u.grid, status := s.status ||| 0x00000102, lat := latched .clear s,
                         pos := .idle, reply := .done } ∧
      (∀ k, k < s.cells → Memory.read u.grid k = some 0) ∧
      (∀ k, s.cells ≤ k → Memory.read u.grid k = Memory.read s.grid k)

/-- R105: BUILD_PAL on an idle block is accepted, gives every palette entry the value of R104, sets
PAL_VALID and DONE, and leaves the grid, the memory and every other register as they were, however often
it is repeated; under the reference converter entry 64 then reads 0x0000E0FB. On a busy block it is refused
(R140, R161; the bus answer OK there is the MODEL'S CHOICE, log 26). -/
def Obligations.BuildPalFillsEveryEntry : Prop :=
  encodedAndRefusedWhileBusy .buildPal 0x00000003 ∧
  ∀ s : State, s.busy = false →
    ∃ n t u, exec .buildPal (alone s) = .next t ∧ t.busy = true ∧ runsTo n t u ∧
      u = { alone s with pal := u.pal, status := s.status ||| 0x00000104, lat := latched .buildPal s,
                         pos := .idle, reply := .done } ∧
      (∀ x : Byte, Memory.read u.pal x.toNat = some (swap16 (packedColor s.params x.toNat))) ∧
      (∀ k, 256 ≤ k → Memory.read u.pal k = Memory.read s.pal k) ∧
      (s.params.converter = .reference → exec (.rdPal 64 .w32) u = .next (answered u 0x0000E0FB))

/-- R143: INIT on an idle block is accepted, builds the palette and zeroes the grid, sets PAL_VALID,
GRID_VALID and DONE, and leaves the memory and every other register as they were; from reset STATUS is
then 0x00000106. On a busy block it is refused (R140, R161; the bus answer OK there is the MODEL'S CHOICE,
log 26). -/
def Obligations.InitBuildsThePaletteAndClearsTheGrid : Prop :=
  encodedAndRefusedWhileBusy .init 0x00000001 ∧
  (∀ s : State, s.busy = false →
    ∃ n t u, exec .init (alone s) = .next t ∧ t.busy = true ∧ runsTo n t u ∧
      u = { alone s with pal := u.pal, grid := u.grid, status := s.status ||| 0x00000106,
                         lat := latched .init s, pos := .idle, reply := .done } ∧
      (∀ x : Byte, Memory.read u.pal x.toNat = some (swap16 (packedColor s.params x.toNat))) ∧
      (∀ k, k < s.cells → Memory.read u.grid k = some 0)) ∧
  (∃ n t u, exec .init State.reset = .next t ∧ runsTo n t u ∧ u.status = 0x00000106)

/-- R111 to R114, R163, R168: a STEP on a known grid is accepted and completes; every cell of rows 0 to GRID_H-2
holds the low 8 bits of `(sum × MULT) // DIV` over the grid as it stood at acceptance; the bottom row is
unchanged; OVF and LAST_ERR record an overflow if some cell had one, and only then; nothing else
changes. -/
def Obligations.StepAdvancesOneGeneration : Prop :=
  ∀ s : State, s.params.Valid → s.busy = false → CellsKnown s.cells s.grid → acceptable .step s →
    ∃ n t u, exec .step (alone s) = .next t ∧ t.busy = true ∧ runsTo n t u ∧
      (∀ y x, y + 1 < s.params.gridH → x < s.params.gridW →
        Memory.read u.grid (y * s.params.gridW + x) = some (BitVec.ofNat 8 (nextValue s y x))) ∧
      (∀ k, s.upperCells ≤ k → Memory.read u.grid k = Memory.read s.grid k) ∧
      (¬ overflows s →
        u = { alone s with grid := u.grid, status := s.status ||| 0x00000100, lat := latched .step s,
                           snap := s.grid, ovfSeen := false, pos := .idle, reply := .done }) ∧
      (overflows s →
        u = { alone s with grid := u.grid, status := s.status ||| 0x00800100, lat := latched .step s,
                           snap := s.grid, ovfSeen := true, pos := .idle, lastErrOp := 0x4,
                           lastErrCause := 9, reply := .done })

/-- R116: a STEP on an all-zero grid leaves every cell 0 and sets no OVF, for every MULT and every
DIV ≥ 1. -/
def Obligations.ZeroGridIsAFixedPointOfStep : Prop :=
  ∀ s : State, s.params.Valid → s.busy = false → acceptable .step s →
    (∀ k, k < s.cells → Memory.read s.grid k = some 0) →
    ∃ n t u, exec .step (alone s) = .next t ∧ runsTo n t u ∧ u.busy = false ∧
      (∀ k, k < s.cells → Memory.read u.grid k = some 0) ∧ u.status = s.status ||| 0x00000100

/-- R115: on a block with a processed cell (GRID_H at least 2), some grid contents make a STEP set OVF, and
the quotient of some processed cell can exceed 255 for some snapshot, exactly when
`(1020 × MULT) // DIV > 255`, which is `1020 × MULT ≥ 256 × DIV`; a given STEP sets OVF exactly when some
processed cell exceeds 255; at 30/32 that is a sum of 274 or more. -/
def Obligations.OverflowExactlyAtTheBound : Prop :=
  (∀ s : State, s.params.Valid → 2 ≤ s.params.gridH → s.busy = false → acceptable .step s →
    s.status.getLsbD 23 = false →
    ((∃ m, CellsKnown s.cells m ∧ ∃ n t u, exec .step (alone { s with grid := m }) = .next t ∧
        runsTo n t u ∧ u.busy = false ∧ u.status.getLsbD 23 = true) ↔
      255 < 1020 * (s.param.toNat % 0x10000) / (s.param.toNat / 0x10000)) ∧
    (255 < 1020 * (s.param.toNat % 0x10000) / (s.param.toNat / 0x10000) ↔
      256 * (s.param.toNat / 0x10000) ≤ 1020 * (s.param.toNat % 0x10000))) ∧
  (∀ s : State, s.params.Valid → 2 ≤ s.params.gridH → s.lat.div ≠ 0 →
    ((∃ (m : List Host.Cell) (y x : Nat), y + 1 < s.params.gridH ∧ x < s.params.gridW ∧
        255 < stepValue { s with snap := m } y x) ↔
      255 < 1020 * s.lat.mult.toNat / s.lat.div.toNat)) ∧
  (∀ s : State, s.params.Valid → s.busy = false → CellsKnown s.cells s.grid → acceptable .step s →
    s.status.getLsbD 23 = false →
    ∃ n t u, exec .step (alone s) = .next t ∧ runsTo n t u ∧ u.busy = false ∧
      (u.status.getLsbD 23 = true ↔ overflows s)) ∧
  (∀ (s : State) (y x : Nat), s.lat.mult = 30 → s.lat.div = 32 →
    (255 < stepValue s y x ↔ 274 ≤ stepSum s y x))

/-- R130, R131, R132, R134: a RENDER whose pixel writes are all answered OK is accepted and completes; every
pixel that no later pixel overwrites holds bits 15:8 of its packed colour at `a(x, y)` and bits 7:0 at
`a(x, y) + 1`; no other byte of memory changes; the grid, the palette and every other register are
unchanged, and exactly the bytes written now need cache maintenance (R64; log 28). -/
def Obligations.RenderWritesTheImage : Prop :=
  ∀ s : State, readyFor .render s → outsideWindow s →
    ∃ n t u, exec .render (answeredOk n s) = .next t ∧ t.busy = true ∧ runsTo n t u ∧
      u = { alone s with mem := u.mem, stale := u.stale,
                         status := s.status ||| 0x00000100, lat := latched .render s, pos := .idle,
                         reply := .done } ∧
      (∀ y x, y + 1 < s.params.gridH → x < s.params.gridW → lastAtItsAddress s y x →
        Memory.read u.mem (pixelAt s y x).toNat =
          some ((packedColor s.params (heat s y x)).extractLsb' 8 8) ∧
        Memory.read u.mem ((pixelAt s y x).toNat + 1) =
          some ((packedColor s.params (heat s y x)).extractLsb' 0 8)) ∧
      (∀ b : Nat, (∀ y x, y + 1 < s.params.gridH → x < s.params.gridW →
          b ≠ (pixelAt s y x).toNat ∧ b ≠ (pixelAt s y x).toNat + 1) →
        Memory.read u.mem b = Memory.read s.mem b) ∧
      (∀ b : Nat, b ∈ u.stale ↔ b ∈ s.stale ∨ ∃ y x, y + 1 < s.params.gridH ∧ x < s.params.gridW ∧
        (b = (pixelAt s y x).toNat ∨ b = (pixelAt s y x).toNat + 1))

/-- R137: under the reference converter a RENDER of an all-zero grid writes two zero bytes at every one of
the (GRID_H-1) × GRID_W pixels. -/
def Obligations.ZeroGridRendersBlack : Prop :=
  ∀ s : State, readyFor .render s → outsideWindow s → s.params.converter = .reference →
    (∀ k, k < s.cells → Memory.read s.grid k = some 0) →
    ∃ n t u, exec .render (answeredOk n s) = .next t ∧ runsTo n t u ∧ u.busy = false ∧
      ∀ y x, y + 1 < s.params.gridH → x < s.params.gridW →
        Memory.read u.mem (pixelAt s y x).toNat = some 0 ∧
        Memory.read u.mem ((pixelAt s y x).toNat + 1) = some 0

/-- R144: EFFECT is STEP then RENDER: with every pixel write answered OK, it ends with the grid, the
memory and the STATUS that a STEP followed by a RENDER leaves; LAST_ERR records an overflow under
EFFECT's own opcode, and nothing else of the block changes. -/
def Obligations.EffectIsStepThenRender : Prop :=
  ∀ s : State, readyFor .effect s → outsideWindow s →
    ∃ n tS uS tR uR m tE uE,
      exec .step (answeredOk n s) = .next tS ∧ runsTo n tS uS ∧ uS.busy = false ∧
      exec .render (answeredOk n uS) = .next tR ∧ runsTo n tR uR ∧ uR.busy = false ∧
      exec .effect (answeredOk m s) = .next tE ∧ runsTo m tE uE ∧ uE.busy = false ∧
      uE.grid = uR.grid ∧ uE.mem = uR.mem ∧ uE.stale = uR.stale ∧ uE.status = uR.status ∧
      (¬ overflows s → uE = { alone s with
        grid := uE.grid, mem := uE.mem, stale := uE.stale, status := uE.status
        snap := s.grid, ovfSeen := false
        lat := latched .effect s, pos := .idle, reply := .done }) ∧
      (overflows s → uE = { alone s with
        grid := uE.grid, mem := uE.mem, stale := uE.stale, status := uE.status
        snap := s.grid, ovfSeen := true
        lat := latched .effect s, pos := .idle, reply := .done, lastErrOp := 0x6, lastErrCause := 9 })

/-- R53, R56, R131: one engine turn of the drawing loop with an OK answer stores the palette entry of the
cell at the pixel's address, low byte first, and moves on to the next pixel; no other byte of memory and
nothing else changes but that these two bytes need cache maintenance (R64; log 28). MODEL'S CHOICE, log 5: one turn is
one pixel. -/
def Obligations.PixelTurnStoresTwoBytes : Prop :=
  ∀ (s : State) (rest : List Turn) (i : Nat) (h : Byte) (p : Half),
    s.turns = .engine .ok :: rest → s.pos = .blit i → i < s.upperCells → s.inWindow (s.pixelAddr i) = false →
    Memory.read s.grid i = some h → Memory.read s.pal h.toNat = some p →
    ∃ t, step s = .next t ∧
      t = { s with turns := rest, mem := t.mem, stale := t.stale, pos := .blit (i + 1) } ∧
      s.pixelAddr i = BitVec.ofNat 32 (s.lat.base.toNat + s.lat.pitch.toNat * (i / s.params.gridW) +
        2 * (i % s.params.gridW)) ∧
      Memory.read t.mem (s.pixelAddr i).toNat = some (p.extractLsb' 0 8) ∧
      Memory.read t.mem (s.pixelAddr i + 1).toNat = some (p.extractLsb' 8 8) ∧
      (∀ b : Nat, b ∈ t.stale ↔ b ∈ s.stale ∨ b = (s.pixelAddr i).toNat ∨ b = (s.pixelAddr i + 1).toNat) ∧
      ∀ b : Nat, b ≠ (s.pixelAddr i).toNat → b ≠ (s.pixelAddr i + 1).toNat →
        Memory.read t.mem b = Memory.read s.mem b

/-- R135: an ERROR response to a pixel write sets E_BUS, records OP, cause 7 and the failing address,
clears BUSY without setting DONE and stops the command; the failing pixel's bytes are unknown, every
other byte, the grid and the palette are unchanged, and the engine issues no further write. MODEL'S CHOICE: an
unknown byte is one that memory does not list (log 12), and exactly the two bytes of the failed write need cache
maintenance after it (log 28). -/
def Obligations.BusErrorAbortsTheCommand : Prop :=
  ∀ (s : State) (rest : List Turn) (i : Nat), s.turns = .engine .error :: rest → s.pos = .blit i →
    i < s.upperCells → s.inWindow (s.pixelAddr i) = false →
    ∃ t, step s = .next t ∧
      t = { s with turns := rest, mem := t.mem, stale := t.stale,
                   status := (s.status ||| 0x00200000) &&& 0xFFFFFFFE, lastErrOp := s.lat.op.opcode,
                   lastErrCause := 7, faultAddr := s.pixelAddr i, pos := .idle } ∧
      Memory.read t.mem (s.pixelAddr i).toNat = none ∧
      Memory.read t.mem (s.pixelAddr i + 1).toNat = none ∧
      (∀ b : Nat, b ≠ (s.pixelAddr i).toNat → b ≠ (s.pixelAddr i + 1).toNat →
        Memory.read t.mem b = Memory.read s.mem b) ∧
      (∀ b : Nat, b ∈ t.stale ↔ b ∈ s.stale ∨ b = (s.pixelAddr i).toNat ∨ b = (s.pixelAddr i + 1).toNat) ∧
      ∀ r, engineTurn r t = t

/-- MODEL'S CHOICE, log 17 (DEDUCED from R14, R39, R55, R166): a pixel write whose address lies in the
block's own window is served by the slave port as a 16-bit write of a bus master. Below 0x800 it gets an
error response and the command is aborted; in reserved space it is ignored; in the grid window, the block
being busy, it is dropped, with E_ACC where it touches a cell. Where the platform itself answers ERROR, the
command is aborted, wherever in the window the pixel lies. Memory and the grid never change. -/
def Obligations.OwnWindowPixelGoesToTheSlavePort : Prop :=
  (∀ (s : State) (rest : List Turn) (i off : Nat), s.turns = .engine .ok :: rest → s.pos = .blit i →
    s.busy = true → i < s.upperCells → (s.pixelAddr i).toNat = s.params.fireBase.toNat + off →
    (off < 0x800 → step s = .next
      { s with turns := rest, status := (s.status ||| 0x00200000) &&& 0xFFFFFFFE,
               lastErrOp := s.lat.op.opcode, lastErrCause := 7, faultAddr := s.pixelAddr i,
               pos := .idle }) ∧
    (0x800 ≤ off → off < 0x10000 → step s = .next { s with turns := rest, pos := .blit (i + 1) }) ∧
    (0x10000 ≤ off → off < 0x20000 → s.cells ≤ off - 0x10000 →
      step s = .next { s with turns := rest, pos := .blit (i + 1) }) ∧
    (0x10000 ≤ off → off < 0x20000 → off - 0x10000 < s.cells →
      step s = .next
        { s with turns := rest, status := s.status ||| 0x00400000, lastErrOp := 0, lastErrCause := 8,
                 faultAddr := BitVec.ofNat 32 off, pos := .blit (i + 1) })) ∧
  (∀ (s : State) (rest : List Turn) (i off : Nat), s.turns = .engine .error :: rest → s.pos = .blit i →
    i < s.upperCells → (s.pixelAddr i).toNat = s.params.fireBase.toNat + off → off < 0x20000 →
    step s = .next
      { s with turns := rest, status := (s.status ||| 0x00200000) &&& 0xFFFFFFFE,
               lastErrOp := s.lat.op.opcode, lastErrCause := 7, faultAddr := s.pixelAddr i,
               pos := .idle })

/-! ## Rules of the whole machine -/

/-- R175: the block has no traps: every step of every state has a next state. -/
def Obligations.StepNeverStops : Prop := ∀ s : State, ∃ t, step s = .next t

/-- Right after reset, for every legal choice of the parameters, the invariant holds. -/
def Obligations.InvHoldsAfterReset : Prop :=
  (∀ p : Params, p.Valid → Inv (State.initial p)) ∧ Inv State.reset

/-- Every step keeps the invariant: the parameters stay legal, the arrays stay in canonical form, the
reserved bits of STATUS read 0, a valid array is known (the palette with the values of R104), BUSY and
the engine's position agree, and LAST_ERR.CAUSE is a defined code. -/
def Obligations.EveryStepKeepsInv : Prop := ∀ s t : State, Inv s → step s = .next t → Inv t

/-- Every step of every state keeps the grid, the palette, the snapshot, the system memory and the list of
stale bytes in canonical form. -/
def Obligations.EveryStepKeepsStorageCanonical : Prop :=
  ∀ s t : State, StorageWf s → step s = .next t → StorageWf t

/-- R27: no step sets a reserved bit of STATUS (7:3, 15:9, 31:24). -/
def Obligations.ReservedStatusBitsStayZero : Prop :=
  ∀ s t : State, s.status &&& 0xFF00FEF8 = 0 → step s = .next t → t.status &&& 0xFF00FEF8 = 0

/-- R8, R25: the parameters of the block never change, so GEOM always reads the same. -/
def Obligations.ParametersNeverChange : Prop :=
  ∀ s t : State, step s = .next t → t.params = s.params ∧ t.geom = s.geom

/-- R47, R141: from every state that meets the invariant, the engine left alone leaves BUSY within a
bounded number of turns, whatever the platform answers. MODEL'S CHOICE, logs 3 and 5: what a turn is, and
so the bound. -/
def Obligations.AcceptedCommandLeavesBusy : Prop :=
  ∀ s : State, Inv s → s.turns = [] →
    ∃ n u, n ≤ 2 * s.cells + 300 ∧ runsTo n s u ∧ u.busy = false

/-- R47: BUSY rises only by the acceptance of a command, and falls only by the engine's completion of the
command, by an E_BUS abort, or by reset. -/
def Obligations.BusyChangesOnlyAsStated : Prop :=
  ∀ s t : State, step s = .next t →
    (s.busy = false → t.busy = true →
      ∃ txn c, hostNext s txn ∧ acceptable c s ∧
        (decode txn = .ok c.instr ∨ decode txn = .ok (.wrCmd .w32 (c.opcode.setWidth 32)))) ∧
    (s.busy = true → t.busy = false →
      resetNext s ∨ (engineNext s ∧ (s.pos = .finish ∨ ∃ i, s.pos = .blit i ∧ t.flag 21 = true)))

/-- R27, R42: the validity bits are cleared by nothing but reset, and set by nothing but the completion of
CLEAR or INIT (GRID_VALID), BUILD_PAL or INIT (PAL_VALID). -/
def Obligations.ValidityBitsChangeOnlyAsStated : Prop :=
  ∀ s t : State, step s = .next t →
    (s.flag 1 = true → t.flag 1 = false → resetNext s) ∧
    (s.flag 2 = true → t.flag 2 = false → resetNext s) ∧
    (s.flag 1 = false → t.flag 1 = true →
      engineNext s ∧ s.pos = .finish ∧ (s.lat.op = .clear ∨ s.lat.op = .init)) ∧
    (s.flag 2 = false → t.flag 2 = true →
      engineNext s ∧ s.pos = .finish ∧ (s.lat.op = .buildPal ∨ s.lat.op = .init))

/-- R106: once every palette entry holds the value of R104, it does so after every step but a reset. -/
def Obligations.BuiltPaletteStaysUntilReset : Prop :=
  ∀ s t : State, (∀ x : Byte, Memory.read s.pal x.toNat = some (swap16 (packedColor s.params x.toNat))) →
    step s = .next t → ¬ resetNext s →
    ∀ x : Byte, Memory.read t.pal x.toNat = some (swap16 (packedColor s.params x.toNat))

/-- R44: a cell of the bottom row changes only by a host write through the grid window while the block is
idle, by the clearing loop of CLEAR or INIT, or by reset; STEP, RENDER and EFFECT never write it. -/
def Obligations.FlameBedChangesOnlyAsStated : Prop :=
  ∀ (s t : State) (k : Nat), Inv s → step s = .next t → s.upperCells ≤ k →
    Memory.read t.grid k ≠ Memory.read s.grid k →
    resetNext s ∨ (engineNext s ∧ s.pos = .clear k) ∨
      (s.busy = false ∧ ∃ txn off w v, hostNext s txn ∧ decode txn = .ok (.wrGrid off w v))

/-- R43, R112: while a command runs, its latched operands and its snapshot change by nothing but reset. -/
def Obligations.LatchedOperandsAreFixedWhileBusy : Prop :=
  ∀ s t : State, step s = .next t → s.busy = true → ¬ resetNext s → t.lat = s.lat ∧ t.snap = s.snap

/-- R196: what the host writes to PARAM, the DST registers, IRQ_EN and CONV_HSL changes nothing of what
the engine does with the command in progress. -/
def Obligations.OperandWritesDoNotReachTheRunningCommand : Prop :=
  ∀ (s : State) (r : PortResponse) (v b p : Word) (d : Byte) (e : BitVec 2) (c : BitVec 24),
    engineTurn r { s with param := v, dstBase := b, dstPitch := p, dstDepth := d, irqEn := e, convHsl := c } =
      { engineTurn r s with param := v, dstBase := b, dstPitch := p, dstDepth := d, irqEn := e,
                            convHsl := c }

/-- R117: the next value of a cell of row y depends only on the snapshot's row y+1 at columns x-1, x, x+1
mod GRID_W and row (y+2) mod GRID_H at column x. -/
def Obligations.StepReadsOnlyItsFourSamples : Prop :=
  ∀ (s : State) (m : List Host.Cell) (y x : Nat), y + 1 < s.params.gridH →
    (∀ c, c = (x + s.params.gridW - 1) % s.params.gridW ∨ c = x ∨ c = (x + 1) % s.params.gridW →
      Memory.read m ((y + 1) * s.params.gridW + c) =
        Memory.read s.snap ((y + 1) * s.params.gridW + c)) →
    Memory.read m ((y + 2) % s.params.gridH * s.params.gridW + x) =
      Memory.read s.snap ((y + 2) % s.params.gridH * s.params.gridW + x) →
    stepValue { s with snap := m } y x = stepValue s y x

/-! ## The interrupt and the windows -/

/-- R170: `irq` is asserted exactly while DONE is set and enabled, or some bit of STATUS 23:16 is set and
the error group enabled. -/
def Obligations.IrqFollowsStatusAndEnables : Prop :=
  ∀ s : State, s.irq = true ↔
    (s.status.getLsbD 8 = true ∧ s.irqEn.getLsbD 0 = true) ∨
      ((∃ b, 16 ≤ b ∧ b ≤ 23 ∧ s.status.getLsbD b = true) ∧ s.irqEn.getLsbD 1 = true)

/-- R173, R176: writing 1 to every pending bit deasserts `irq`; enabling a pending source asserts it at
once. -/
def Obligations.AcknowledgeAndEnableActAtOnce : Prop :=
  (∀ (s : State) (v : Word), s.status &&& 0x00FF0100 &&& ~~~v = 0 →
    ∃ t, exec (.wrStatus .w32 v) s = .next t ∧ t.irq = false) ∧
  (∀ (s : State) (v : Word), s.status.getLsbD 8 = true → v.getLsbD 0 = true →
    ∃ t, exec (.wrIrqEn .w32 v) s = .next t ∧ t.irq = true) ∧
  (∀ (s : State) (v : Word) (b : Nat), 16 ≤ b → b ≤ 23 → s.status.getLsbD b = true →
    v.getLsbD 1 = true → ∃ t, exec (.wrIrqEn .w32 v) s = .next t ∧ t.irq = true)

/-- R166: while BUSY is 1, a legal grid window access that touches a cell and a palette window read set
E_ACC with cause 8, OP 0 and the window offset in FAULT_ADDR; the write is dropped, the read returns some
value, 0 in the bytes beyond the grid (R51); the access is answered OK and nothing else changes (the
counter of the free values apart). MODEL'S CHOICE for the bytes beyond the grid: log 10 (R51). -/
def Obligations.BusyWindowAccessRaisesAcc : Prop :=
  ∀ (s : State) (off : BitVec 16) (w : Width) (n : Nat) (v : Word) (i : Byte), s.busy = true →
    (gridAccess off.toNat n w → off.toNat < s.cells →
      exec (.wrGrid off w v) s =
        .next { s with status := s.status ||| 0x00400000, lastErrOp := 0, lastErrCause := 8,
                       faultAddr := BitVec.ofNat 32 (0x10000 + off.toNat), reply := .done }) ∧
    (gridAccess off.toNat n w → off.toNat < s.cells →
      ∃ d, exec (.rdGrid off w) s =
        .next { s with status := s.status ||| 0x00400000, lastErrOp := 0, lastErrCause := 8,
                       faultAddr := BitVec.ofNat 32 (0x10000 + off.toNat), reply := .data d,
                       draws := s.draws + 1 } ∧
        d.toNat < 2 ^ (8 * n) ∧
        ∀ k, k < n → s.cells ≤ off.toNat + k → BitVec.ofNat 8 (d.toNat / 2 ^ (8 * k)) = 0) ∧
    (∃ d, exec (.rdPal i .w32) s =
      .next { s with status := s.status ||| 0x00400000, lastErrOp := 0, lastErrCause := 8,
                     faultAddr := BitVec.ofNat 32 (0x400 + 4 * i.toNat), reply := .data d,
                     draws := s.draws + 1 })

/-- R52, R146: on an idle block a legal grid window write stores data byte k in cell `i + k`, ignores the
bytes beyond the grid, and changes no other cell and nothing else but the answer. -/
def Obligations.GridWriteStoresLittleEndian : Prop :=
  ∀ (s : State) (off : BitVec 16) (w : Width) (n : Nat) (v : Word), s.busy = false →
    gridAccess off.toNat n w →
    ∃ t, exec (.wrGrid off w v) s = .next t ∧ t = { s with grid := t.grid, reply := .done } ∧
      (∀ k, k < n → off.toNat + k < s.cells →
        Memory.read t.grid (off.toNat + k) = some (BitVec.ofNat 8 (v.toNat / 2 ^ (8 * k)))) ∧
      (∀ j, (∀ k, k < n → off.toNat + k < s.cells → j ≠ off.toNat + k) →
        Memory.read t.grid j = Memory.read s.grid j)

/-- R52, R147: on an idle block a legal grid window read returns cell `i + k` on data bits 8k+7 : 8k and 0
for the bytes beyond the grid; nothing changes but the answer, and, where a cell was not known, the
counter of the free values. -/
def Obligations.GridReadReturnsTheCells : Prop :=
  ∀ (s : State) (off : BitVec 16) (w : Width) (n : Nat), s.busy = false → gridAccess off.toNat n w →
    ∃ t d, exec (.rdGrid off w) s = .next t ∧ t = { s with reply := .data d, draws := t.draws } ∧
      d.toNat < 2 ^ (8 * n) ∧
      (∀ k b, k < n → off.toNat + k < s.cells → Memory.read s.grid (off.toNat + k) = some b →
        BitVec.ofNat 8 (d.toNat / 2 ^ (8 * k)) = b) ∧
      (∀ k, k < n → s.cells ≤ off.toNat + k → BitVec.ofNat 8 (d.toNat / 2 ^ (8 * k)) = 0) ∧
      ((∀ k, k < n → off.toNat + k < s.cells → (Memory.read s.grid (off.toNat + k)).isSome) →
        t.draws = s.draws)

/-- R51: a legal access to grid window bytes beyond GRID_W × GRID_H reads 0 or is ignored, busy or not,
and raises no error. -/
def Obligations.BytesBeyondTheGridAreReserved : Prop :=
  ∀ (s : State) (off : BitVec 16) (w : Width) (n : Nat) (v : Word), gridAccess off.toNat n w →
    s.cells ≤ off.toNat →
    exec (.wrGrid off w v) s = .next { s with reply := .done } ∧
    exec (.rdGrid off w) s = .next { s with reply := .data 0 }

/-- R148: a palette read returns the entry zero-extended where the palette is valid and the block idle, a
zero-extended unspecified entry where PAL_VALID is 0, and with E_ACC some value while busy; any other
width or a misaligned offset gets an error response; a write to the palette window is ignored, busy or not. -/
def Obligations.PaletteReadReturnsTheEntry : Prop :=
  ∀ (s : State) (i : Byte) (w : Width) (v : Word),
    (∀ p : Half, s.busy = false → s.palValid = true → Memory.read s.pal i.toNat = some p →
      exec (.rdPal i .w32) s = .next { s with reply := .data (BitVec.ofNat 32 p.toNat) }) ∧
    (s.busy = false → s.palValid = false → ∃ d : Word, d.toNat < 0x10000 ∧
      exec (.rdPal i .w32) s = .next { s with reply := .data d, draws := s.draws + 1 }) ∧
    (s.busy = true → ∃ d, exec (.rdPal i .w32) s =
      .next { s with status := s.status ||| 0x00400000, lastErrOp := 0, lastErrCause := 8,
                     faultAddr := BitVec.ofNat 32 (0x400 + 4 * i.toNat), reply := .data d,
                     draws := s.draws + 1 }) ∧
    (w ≠ .w32 → exec (.rdPal i w) s = .next { s with reply := .error }) ∧
    (∀ (o : BitVec 2) (rest : List Turn), o ≠ 0 →
      s.turns = .host (.mmio (0b0_0000001#8 ++ i ++ o) w v) :: rest →
      step s = .next { s with turns := rest, reply := .error }) ∧
    exec (.wrPal i .w32 v) s = .next { s with reply := .done }

/-! ## Colour -/

/-- R100: the integer form the model computes with equals the reference function in exact rational
arithmetic, for every hue, saturation and lightness. -/
def Obligations.ConverterEqualsTheRationalReference : Prop :=
  ∀ h s l : Byte, hslComponents h s l = hslRational h s l

/-- R100: every component is in [0, 255], so `hsl_to_rgb` loses nothing; s = 0 gives (l, l, l), l = 0 gives
black and l = 255 white. -/
def Obligations.ConverterComponentsAreBytes : Prop :=
  (∀ h s l : Byte, ∀ c : Int,
    c = (hslComponents h s l).1 ∨ c = (hslComponents h s l).2.1 ∨ c = (hslComponents h s l).2.2 →
      0 ≤ c ∧ c ≤ 255) ∧
  (∀ h s l : Byte, (((hslToRgb h s l).1.toNat : Int), ((hslToRgb h s l).2.1.toNat : Int),
    ((hslToRgb h s l).2.2.toNat : Int)) = hslComponents h s l) ∧
  (∀ h l : Byte, hslToRgb h 0 l = (l, l, l)) ∧ (∀ h s : Byte, hslToRgb h s 0 = (0, 0, 0)) ∧
  (∀ h s : Byte, hslToRgb h s 255 = (255, 255, 255)) ∧ hslToRgb 0 255 128 = (255, 1, 1)

/-- R101, R102: the fields of the packed word and of the swapped word, as numbers. -/
def Obligations.PackAndSwapPlaceTheirFields : Prop :=
  (∀ r g b : Byte, (packRgb565 r g b).toNat =
    0x800 * (r.toNat / 8) + 0x20 * (g.toNat / 4) + b.toNat / 8) ∧
  packRgb565 255 255 255 = 0xFFFF ∧ packRgb565 255 1 1 = 0xF800 ∧ packRgb565 7 3 7 = 0 ∧
  (∀ p : Half, (swap16 p).toNat = 0x100 * (p.toNat % 0x100) + p.toNat / 0x100) ∧
  (∀ p : Half, swap16 (swap16 p) = p) ∧ swap16 0xF800 = 0x00F8

/-- R103, R36 to R38: a write of `v` to CONV_HSL is answered OK, busy or not, and changes nothing but
CONV_HSL; the next reads of CONV_RGB and CONV_PIX return the colour of `v`'s fields. -/
def Obligations.ConvShowsItsColourAtOnce : Prop :=
  (∀ v : Word, decode (.mmio 0b1_00000000000110000 .w32 v) = .ok (.conv .w32 v)) ∧
  (∀ (s : State) (v : Word), ∃ t, exec (.conv .w32 v) s = .next t ∧
    t = { s with convHsl := v.setWidth 24, reply := .done } ∧
    ∀ r g b : Byte,
      convertWith s.params.converter (BitVec.ofNat 8 v.toNat) (BitVec.ofNat 8 (v.toNat / 0x100))
        (BitVec.ofNat 8 (v.toNat / 0x10000)) = (r, g, b) →
      exec (.rdConvRgb .w32) t =
        .next (answered t (BitVec.ofNat 32 (0x10000 * b.toNat + 0x100 * g.toNat + r.toNat))) ∧
      exec (.rdConvPix .w32) t =
        .next (answered t (BitVec.ofNat 32 (0x10000 * (swap16 (packRgb565 r g b)).toNat +
          (packRgb565 r g b).toNat)))) ∧
  (∃ t, exec (.conv .w32 0x0080FF00) State.reset = .next t ∧ t.convRgb = 0x000101FF ∧
    t.convPix = 0x00F8F800)

/-- R104, R107: sample palette entries of the table in 95_test_vectors.md, and white from 126 on, under the
reference converter. -/
def Obligations.PaletteEntryValues : Prop :=
  palEntry 0 = 0x0000 ∧ palEntry 17 = 0x2040 ∧ palEntry 46 = 0x00BA ∧ palEntry 64 = 0xE0FB ∧
  palEntry 93 = 0xCEFE ∧ palEntry 125 = 0xFEFF ∧ palEntry 126 = 0xFFFF ∧ palEntry 128 = 0xFFFF ∧
  palEntry 255 = 0xFFFF ∧ ∀ x : Byte, 126 ≤ x.toNat → palEntry x = 0xFFFF

/-! ## Reset, other agents and the host procedures -/

/-- R45, R190, R191: the reset input gives every register its reset value, abandons the command in
progress and leaves the arrays unspecified; memory changes at most by the one pixel already issued.
Under the reference converter CONV_RGB and CONV_PIX then read 0 (R23, R37, R38); MODEL'S CHOICE, log 29: under
any other converter they show its colour of (0, 0, 0), as R37 says "at every instant".
MODEL'S CHOICE, logs 11, 13, 21 and 28: memory and the caches survive the reset, the turn says what became of
that pixel, and reset is an instant. -/
def Obligations.ResetInputRestoresTheRegisters : Prop :=
  ∀ (s : State) (f : Option PortResponse) (rest : List Turn), s.turns = .reset f :: rest →
    ∃ t, step s = .next t ∧ t.status = 0 ∧ t.irqEn = 0 ∧ t.param = 0 ∧ t.dstBase = 0 ∧ t.dstPitch = 0 ∧
      t.dstDepth = 0x10 ∧ t.lastErr = 0 ∧ t.faultAddr = 0 ∧ t.convHsl = 0 ∧ t.pos = .idle ∧
      t.irq = false ∧ t.params = s.params ∧ t.turns = rest ∧
      (s.params.converter = .reference → t.convRgb = 0 ∧ t.convPix = 0) ∧
      (∀ r g b : Byte, convertWith s.params.converter 0 0 0 = (r, g, b) →
        t.convRgb = BitVec.ofNat 32 (0x10000 * b.toNat + 0x100 * g.toNat + r.toNat) ∧
        t.convPix = BitVec.ofNat 32 (0x10000 * (swap16 (packRgb565 r g b)).toNat +
          (packRgb565 r g b).toNat)) ∧
      (∀ k, Memory.read t.grid k = none) ∧ (∀ k, Memory.read t.pal k = none) ∧
      (f = none → t.mem = s.mem ∧ t.stale = s.stale) ∧ t.maintained = s.maintained ∧
      (∀ b : Nat, b ∈ s.stale → b ∈ t.stale) ∧
      (∀ b : Nat, Memory.read t.mem b ≠ Memory.read s.mem b ∨ (b ∈ t.stale ∧ b ∉ s.stale) →
        ∃ i, s.pos = .blit i ∧ i < s.upperCells ∧
          (b = (s.pixelAddr i).toNat ∨ b = (s.pixelAddr i + 1).toNat))

/-- R64: on a coherent platform, or where the host's cache maintenance came after the block's last write to the
byte, another agent's read of a byte outside the window returns the byte memory holds, whoever wrote it, and
changes nothing else of the state but the draws. Nothing but a pixel write (one issued before a reset among them)
to the byte itself ends this: a byte read back once reads the same after every step that writes other bytes, so a
finished image stays readable while later commands draw elsewhere.
MODEL'S CHOICE, logs 14 and 28 (R64, R65): what maintenance covers; and another agent's write of a byte and its read back give the byte
written, and neither changes any other byte nor the block. -/
def Obligations.CoherentAgentReadsWhatMemoryHolds : Prop :=
  (∀ (s : State) (a : Word) (v : Byte) (rest : List Turn), s.inWindow a = false → upToDate s a →
    Memory.read s.mem a.toNat = some v → s.turns = .agentRead a :: rest →
    ∃ u, step s = .next u ∧ u = { s with turns := rest, agentData := v, draws := u.draws }) ∧
  (∀ (s : State) (a : Word) (v : Byte) (rest : List Turn), s.inWindow a = false → upToDate s a →
    s.turns = .agentWrite a v :: .agentRead a :: rest →
    ∃ t u, step s = .next t ∧ t = { s with turns := .agentRead a :: rest, mem := t.mem } ∧
      (∀ b : Nat, b ≠ a.toNat → Memory.read t.mem b = Memory.read s.mem b) ∧
      step t = .next u ∧ u = { t with turns := rest, agentData := v, draws := u.draws }) ∧
  (∀ (s : State) (a : Word) (v : Byte) (rest : List Turn), s.inWindow a = false →
    Memory.read s.mem a.toNat = some v → s.turns = .maintain :: .agentRead a :: rest →
    ∃ u, runsTo 2 s u ∧
      u = { s with turns := rest, maintained := true, stale := [], agentData := v, draws := u.draws }) ∧
  (∀ (s t : State) (a : Word), step s = .next t → upToDate s a → ¬ upToDate t a →
    (engineNext s ∨ resetNext s) ∧
      ∃ i, s.pos = .blit i ∧ i < s.upperCells ∧ s.inWindow (s.pixelAddr i) = false ∧
        (a = s.pixelAddr i ∨ a = s.pixelAddr i + 1)) ∧
  (∀ (s t : State) (a : Word) (v : Byte), step s = .next t → upToDate s a →
    Memory.read s.mem a.toNat = some v →
    (∀ i, s.pos = .blit i → i < s.upperCells → engineNext s ∨ resetNext s →
      a ≠ s.pixelAddr i ∧ a ≠ s.pixelAddr i + 1) →
    (∀ w rest, s.turns ≠ .agentWrite a w :: rest) →
    upToDate t a ∧ Memory.read t.mem a.toNat = some v)

/-- R121: on an idle block, the host's feed, in any legal mix of 8-, 16- and 32-bit writes, writes the values
drawn into the bottom row and changes no other cell; 8-bit writes are always such a mix, and the rule's
example is one 32-bit write. MODEL'S CHOICE, log 20: the procedure is a generator of host transactions. -/
def Obligations.FeedRefillsTheFlameBed : Prop :=
  (∀ (s : State) (mix : List Width) (draw : Nat → Byte), s.params.Valid → s.busy = false →
    legalMix s.params mix 0 = true →
    ∃ u, runsTo mix.length { s with turns := (feedLines s.params mix draw).map HostLine.turn } u ∧
      u = { s with turns := [], grid := u.grid, reply := .done } ∧
      (∀ x, x < s.params.gridW → Memory.read u.grid (s.upperCells + x) = some (draw x)) ∧
      (∀ k, (k < s.upperCells ∨ s.cells ≤ k) → Memory.read u.grid k = Memory.read s.grid k)) ∧
  (∀ p : Params, p.Valid → legalMix p (List.replicate p.gridW .w8) 0 = true) ∧
  (∀ draw : Nat → Byte, draw 0 = 0x40 → draw 1 = 0x80 → draw 2 = 0xC8 → draw 3 = 0xFF →
    legalMix Params.example4x4 [.w32] 0 = true ∧
      feedLines Params.example4x4 [.w32] draw = [.wr .w32 0x1000C 0xFFC88040])

/-- R122: bit r of a column byte, or bit 7 - r under the other order, is row r from the top.
R123: a glyph placed partially or fully outside the grid makes no access at all; one placed inside
sets, on an idle block, exactly the cells of its "on" bits to its intensity, a value from 1 to 255.
MODEL'S CHOICE, log 20: the procedure is a generator of host transactions. -/
def Obligations.PutCharSetsTheOnBitsOrNothing : Prop :=
  (∀ (column : Byte) (r : Nat), r < 8 →
    fontBit .lsbTop column r = column.getLsbD r ∧ fontBit .msbTop column r = column.getLsbD (7 - r)) ∧
  ∀ (p : Params) (order : FontBitOrder) (font : Nat → Nat → Byte) (glyph : Byte) (x0 y0 : Int)
    (v : GlyphIntensity),
    ((x0 < 0 ∨ y0 < 0 ∨ (p.gridW : Int) - 8 < x0 ∨ (p.gridH : Int) - 8 < y0) →
      putCharLines p order font glyph x0 y0 v = []) ∧
    (∀ s : State, s.params = p → p.Valid → s.busy = false → 0 ≤ x0 → 0 ≤ y0 →
      x0 ≤ (p.gridW : Int) - 8 → y0 ≤ (p.gridH : Int) - 8 →
      ∃ n u, runsTo n
          { s with turns := (putCharLines p order font glyph x0 y0 v).map HostLine.turn } u ∧
        u.turns = [] ∧
        (∀ c r, c < 8 → r < 8 → fontBit order (font (glyph.toNat % 128 + 1) c) r = true →
          Memory.read u.grid ((y0.toNat + r) * p.gridW + (x0.toNat + c)) = some v.val ∧ v.val ≠ 0) ∧
        (∀ k, (∀ c r, c < 8 → r < 8 → fontBit order (font (glyph.toNat % 128 + 1) c) r = true →
            k ≠ (y0.toNat + r) * p.gridW + (x0.toNat + c)) →
          Memory.read u.grid k = Memory.read s.grid k))

/-- R64: after a RENDER whose pixel writes were all answered OK, the host's read of either byte of a pixel that
no later pixel overwrites returns the byte the block wrote: at once on a coherent platform, and on every platform
after the host's cache maintenance. MODEL'S CHOICE, log 28: what maintenance covers. -/
def Obligations.MaintainedImageIsReadBack : Prop :=
  ∀ s : State, readyFor .render s → outsideWindow s →
    ∃ n t u, exec .render (answeredOk n s) = .next t ∧ runsTo n t u ∧ u.busy = false ∧
      ∀ y x, y + 1 < s.params.gridH → x < s.params.gridW → lastAtItsAddress s y x →
        (∃ r, runsTo 2 { u with turns := [.maintain, .agentRead (pixelAt s y x)] } r ∧
          r.agentData = (packedColor s.params (heat s y x)).extractLsb' 8 8) ∧
        (∃ r, runsTo 2 { u with turns := [.maintain, .agentRead (pixelAt s y x + 1)] } r ∧
          r.agentData = (packedColor s.params (heat s y x)).extractLsb' 0 8) ∧
        (s.params.dmaCoherent = true →
          (∃ r, runsTo 1 { u with turns := [.agentRead (pixelAt s y x)] } r ∧
            r.agentData = (packedColor s.params (heat s y x)).extractLsb' 8 8) ∧
          (∃ r, runsTo 1 { u with turns := [.agentRead (pixelAt s y x + 1)] } r ∧
            r.agentData = (packedColor s.params (heat s y x)).extractLsb' 0 8))
end

