-- ==== Sys2Proof/Laws/State.lean ====
section
/-! SUPPORT. One lemma for each field and each named update of the state, true by rfl, and the reading of
single STATUS bits after an update. -/

namespace Sys2Proof.Machine

/-! ## setFlag -/

@[simp] theorem setFlag_params (s : State) (b : Nat) : (s.setFlag b).params = s.params := rfl
@[simp] theorem setFlag_status (s : State) (b : Nat) : (s.setFlag b).status = s.status ||| BitVec.twoPow 32 b := rfl
@[simp] theorem setFlag_irqEn (s : State) (b : Nat) : (s.setFlag b).irqEn = s.irqEn := rfl
@[simp] theorem setFlag_param (s : State) (b : Nat) : (s.setFlag b).param = s.param := rfl
@[simp] theorem setFlag_dstBase (s : State) (b : Nat) : (s.setFlag b).dstBase = s.dstBase := rfl
@[simp] theorem setFlag_dstPitch (s : State) (b : Nat) : (s.setFlag b).dstPitch = s.dstPitch := rfl
@[simp] theorem setFlag_dstDepth (s : State) (b : Nat) : (s.setFlag b).dstDepth = s.dstDepth := rfl
@[simp] theorem setFlag_lastErrOp (s : State) (b : Nat) : (s.setFlag b).lastErrOp = s.lastErrOp := rfl
@[simp] theorem setFlag_lastErrCause (s : State) (b : Nat) : (s.setFlag b).lastErrCause = s.lastErrCause := rfl
@[simp] theorem setFlag_faultAddr (s : State) (b : Nat) : (s.setFlag b).faultAddr = s.faultAddr := rfl
@[simp] theorem setFlag_convHsl (s : State) (b : Nat) : (s.setFlag b).convHsl = s.convHsl := rfl
@[simp] theorem setFlag_grid (s : State) (b : Nat) : (s.setFlag b).grid = s.grid := rfl
@[simp] theorem setFlag_pal (s : State) (b : Nat) : (s.setFlag b).pal = s.pal := rfl
@[simp] theorem setFlag_lat (s : State) (b : Nat) : (s.setFlag b).lat = s.lat := rfl
@[simp] theorem setFlag_snap (s : State) (b : Nat) : (s.setFlag b).snap = s.snap := rfl
@[simp] theorem setFlag_pos (s : State) (b : Nat) : (s.setFlag b).pos = s.pos := rfl
@[simp] theorem setFlag_ovfSeen (s : State) (b : Nat) : (s.setFlag b).ovfSeen = s.ovfSeen := rfl
@[simp] theorem setFlag_mem (s : State) (b : Nat) : (s.setFlag b).mem = s.mem := rfl
@[simp] theorem setFlag_turns (s : State) (b : Nat) : (s.setFlag b).turns = s.turns := rfl
@[simp] theorem setFlag_reply (s : State) (b : Nat) : (s.setFlag b).reply = s.reply := rfl
@[simp] theorem setFlag_agentData (s : State) (b : Nat) : (s.setFlag b).agentData = s.agentData := rfl
@[simp] theorem setFlag_draws (s : State) (b : Nat) : (s.setFlag b).draws = s.draws := rfl
@[simp] theorem setFlag_maintained (s : State) (b : Nat) : (s.setFlag b).maintained = s.maintained := rfl
@[simp] theorem setFlag_stale (s : State) (b : Nat) : (s.setFlag b).stale = s.stale := rfl
@[simp] theorem setFlag_cells (s : State) (b : Nat) : (s.setFlag b).cells = s.cells := rfl
@[simp] theorem setFlag_builtEntry (s : State) (b : Nat) : (s.setFlag b).builtEntry = s.builtEntry := rfl
@[simp] theorem setFlag_upperCells (s : State) (b : Nat) : (s.setFlag b).upperCells = s.upperCells := rfl
@[simp] theorem setFlag_inWindow (s : State) (b : Nat) (x : Word) : (s.setFlag b).inWindow x = s.inWindow x := rfl

/-! ## clearFlag -/

@[simp] theorem clearFlag_params (s : State) (b : Nat) : (s.clearFlag b).params = s.params := rfl
@[simp] theorem clearFlag_status (s : State) (b : Nat) : (s.clearFlag b).status = s.status &&& ~~~(BitVec.twoPow 32 b) := rfl
@[simp] theorem clearFlag_irqEn (s : State) (b : Nat) : (s.clearFlag b).irqEn = s.irqEn := rfl
@[simp] theorem clearFlag_param (s : State) (b : Nat) : (s.clearFlag b).param = s.param := rfl
@[simp] theorem clearFlag_dstBase (s : State) (b : Nat) : (s.clearFlag b).dstBase = s.dstBase := rfl
@[simp] theorem clearFlag_dstPitch (s : State) (b : Nat) : (s.clearFlag b).dstPitch = s.dstPitch := rfl
@[simp] theorem clearFlag_dstDepth (s : State) (b : Nat) : (s.clearFlag b).dstDepth = s.dstDepth := rfl
@[simp] theorem clearFlag_lastErrOp (s : State) (b : Nat) : (s.clearFlag b).lastErrOp = s.lastErrOp := rfl
@[simp] theorem clearFlag_lastErrCause (s : State) (b : Nat) : (s.clearFlag b).lastErrCause = s.lastErrCause := rfl
@[simp] theorem clearFlag_faultAddr (s : State) (b : Nat) : (s.clearFlag b).faultAddr = s.faultAddr := rfl
@[simp] theorem clearFlag_convHsl (s : State) (b : Nat) : (s.clearFlag b).convHsl = s.convHsl := rfl
@[simp] theorem clearFlag_grid (s : State) (b : Nat) : (s.clearFlag b).grid = s.grid := rfl
@[simp] theorem clearFlag_pal (s : State) (b : Nat) : (s.clearFlag b).pal = s.pal := rfl
@[simp] theorem clearFlag_lat (s : State) (b : Nat) : (s.clearFlag b).lat = s.lat := rfl
@[simp] theorem clearFlag_snap (s : State) (b : Nat) : (s.clearFlag b).snap = s.snap := rfl
@[simp] theorem clearFlag_pos (s : State) (b : Nat) : (s.clearFlag b).pos = s.pos := rfl
@[simp] theorem clearFlag_ovfSeen (s : State) (b : Nat) : (s.clearFlag b).ovfSeen = s.ovfSeen := rfl
@[simp] theorem clearFlag_mem (s : State) (b : Nat) : (s.clearFlag b).mem = s.mem := rfl
@[simp] theorem clearFlag_turns (s : State) (b : Nat) : (s.clearFlag b).turns = s.turns := rfl
@[simp] theorem clearFlag_reply (s : State) (b : Nat) : (s.clearFlag b).reply = s.reply := rfl
@[simp] theorem clearFlag_agentData (s : State) (b : Nat) : (s.clearFlag b).agentData = s.agentData := rfl
@[simp] theorem clearFlag_draws (s : State) (b : Nat) : (s.clearFlag b).draws = s.draws := rfl
@[simp] theorem clearFlag_maintained (s : State) (b : Nat) : (s.clearFlag b).maintained = s.maintained := rfl
@[simp] theorem clearFlag_stale (s : State) (b : Nat) : (s.clearFlag b).stale = s.stale := rfl
@[simp] theorem clearFlag_cells (s : State) (b : Nat) : (s.clearFlag b).cells = s.cells := rfl
@[simp] theorem clearFlag_builtEntry (s : State) (b : Nat) : (s.clearFlag b).builtEntry = s.builtEntry := rfl
@[simp] theorem clearFlag_upperCells (s : State) (b : Nat) : (s.clearFlag b).upperCells = s.upperCells := rfl
@[simp] theorem clearFlag_inWindow (s : State) (b : Nat) (x : Word) : (s.clearFlag b).inWindow x = s.inWindow x := rfl

/-! ## raise -/

@[simp] theorem raise_params (e : ErrorCause) (op : BitVec 4) (s : State) : (raise e op s).params = s.params := rfl
@[simp] theorem raise_status (e : ErrorCause) (op : BitVec 4) (s : State) : (raise e op s).status = s.status ||| BitVec.twoPow 32 e.bit := rfl
@[simp] theorem raise_irqEn (e : ErrorCause) (op : BitVec 4) (s : State) : (raise e op s).irqEn = s.irqEn := rfl
@[simp] theorem raise_param (e : ErrorCause) (op : BitVec 4) (s : State) : (raise e op s).param = s.param := rfl
@[simp] theorem raise_dstBase (e : ErrorCause) (op : BitVec 4) (s : State) : (raise e op s).dstBase = s.dstBase := rfl
@[simp] theorem raise_dstPitch (e : ErrorCause) (op : BitVec 4) (s : State) : (raise e op s).dstPitch = s.dstPitch := rfl
@[simp] theorem raise_dstDepth (e : ErrorCause) (op : BitVec 4) (s : State) : (raise e op s).dstDepth = s.dstDepth := rfl
@[simp] theorem raise_lastErrOp (e : ErrorCause) (op : BitVec 4) (s : State) : (raise e op s).lastErrOp = op := rfl
@[simp] theorem raise_lastErrCause (e : ErrorCause) (op : BitVec 4) (s : State) : (raise e op s).lastErrCause = e.code := rfl
@[simp] theorem raise_faultAddr (e : ErrorCause) (op : BitVec 4) (s : State) : (raise e op s).faultAddr = s.faultAddr := rfl
@[simp] theorem raise_convHsl (e : ErrorCause) (op : BitVec 4) (s : State) : (raise e op s).convHsl = s.convHsl := rfl
@[simp] theorem raise_grid (e : ErrorCause) (op : BitVec 4) (s : State) : (raise e op s).grid = s.grid := rfl
@[simp] theorem raise_pal (e : ErrorCause) (op : BitVec 4) (s : State) : (raise e op s).pal = s.pal := rfl
@[simp] theorem raise_lat (e : ErrorCause) (op : BitVec 4) (s : State) : (raise e op s).lat = s.lat := rfl
@[simp] theorem raise_snap (e : ErrorCause) (op : BitVec 4) (s : State) : (raise e op s).snap = s.snap := rfl
@[simp] theorem raise_pos (e : ErrorCause) (op : BitVec 4) (s : State) : (raise e op s).pos = s.pos := rfl
@[simp] theorem raise_ovfSeen (e : ErrorCause) (op : BitVec 4) (s : State) : (raise e op s).ovfSeen = s.ovfSeen := rfl
@[simp] theorem raise_mem (e : ErrorCause) (op : BitVec 4) (s : State) : (raise e op s).mem = s.mem := rfl
@[simp] theorem raise_turns (e : ErrorCause) (op : BitVec 4) (s : State) : (raise e op s).turns = s.turns := rfl
@[simp] theorem raise_reply (e : ErrorCause) (op : BitVec 4) (s : State) : (raise e op s).reply = s.reply := rfl
@[simp] theorem raise_agentData (e : ErrorCause) (op : BitVec 4) (s : State) : (raise e op s).agentData = s.agentData := rfl
@[simp] theorem raise_draws (e : ErrorCause) (op : BitVec 4) (s : State) : (raise e op s).draws = s.draws := rfl
@[simp] theorem raise_maintained (e : ErrorCause) (op : BitVec 4) (s : State) : (raise e op s).maintained = s.maintained := rfl
@[simp] theorem raise_stale (e : ErrorCause) (op : BitVec 4) (s : State) : (raise e op s).stale = s.stale := rfl
@[simp] theorem raise_cells (e : ErrorCause) (op : BitVec 4) (s : State) : (raise e op s).cells = s.cells := rfl
@[simp] theorem raise_builtEntry (e : ErrorCause) (op : BitVec 4) (s : State) : (raise e op s).builtEntry = s.builtEntry := rfl
@[simp] theorem raise_upperCells (e : ErrorCause) (op : BitVec 4) (s : State) : (raise e op s).upperCells = s.upperCells := rfl
@[simp] theorem raise_inWindow (e : ErrorCause) (op : BitVec 4) (s : State) (x : Word) : (raise e op s).inWindow x = s.inWindow x := rfl

/-! ## raiseBus -/

@[simp] theorem raiseBus_params (op : BitVec 4) (a : Word) (s : State) : (raiseBus op a s).params = s.params := rfl
@[simp] theorem raiseBus_status (op : BitVec 4) (a : Word) (s : State) : (raiseBus op a s).status = s.status ||| BitVec.twoPow 32 21 := rfl
@[simp] theorem raiseBus_irqEn (op : BitVec 4) (a : Word) (s : State) : (raiseBus op a s).irqEn = s.irqEn := rfl
@[simp] theorem raiseBus_param (op : BitVec 4) (a : Word) (s : State) : (raiseBus op a s).param = s.param := rfl
@[simp] theorem raiseBus_dstBase (op : BitVec 4) (a : Word) (s : State) : (raiseBus op a s).dstBase = s.dstBase := rfl
@[simp] theorem raiseBus_dstPitch (op : BitVec 4) (a : Word) (s : State) : (raiseBus op a s).dstPitch = s.dstPitch := rfl
@[simp] theorem raiseBus_dstDepth (op : BitVec 4) (a : Word) (s : State) : (raiseBus op a s).dstDepth = s.dstDepth := rfl
@[simp] theorem raiseBus_lastErrOp (op : BitVec 4) (a : Word) (s : State) : (raiseBus op a s).lastErrOp = op := rfl
@[simp] theorem raiseBus_lastErrCause (op : BitVec 4) (a : Word) (s : State) : (raiseBus op a s).lastErrCause = 7 := rfl
@[simp] theorem raiseBus_faultAddr (op : BitVec 4) (a : Word) (s : State) : (raiseBus op a s).faultAddr = a := rfl
@[simp] theorem raiseBus_convHsl (op : BitVec 4) (a : Word) (s : State) : (raiseBus op a s).convHsl = s.convHsl := rfl
@[simp] theorem raiseBus_grid (op : BitVec 4) (a : Word) (s : State) : (raiseBus op a s).grid = s.grid := rfl
@[simp] theorem raiseBus_pal (op : BitVec 4) (a : Word) (s : State) : (raiseBus op a s).pal = s.pal := rfl
@[simp] theorem raiseBus_lat (op : BitVec 4) (a : Word) (s : State) : (raiseBus op a s).lat = s.lat := rfl
@[simp] theorem raiseBus_snap (op : BitVec 4) (a : Word) (s : State) : (raiseBus op a s).snap = s.snap := rfl
@[simp] theorem raiseBus_pos (op : BitVec 4) (a : Word) (s : State) : (raiseBus op a s).pos = s.pos := rfl
@[simp] theorem raiseBus_ovfSeen (op : BitVec 4) (a : Word) (s : State) : (raiseBus op a s).ovfSeen = s.ovfSeen := rfl
@[simp] theorem raiseBus_mem (op : BitVec 4) (a : Word) (s : State) : (raiseBus op a s).mem = s.mem := rfl
@[simp] theorem raiseBus_turns (op : BitVec 4) (a : Word) (s : State) : (raiseBus op a s).turns = s.turns := rfl
@[simp] theorem raiseBus_reply (op : BitVec 4) (a : Word) (s : State) : (raiseBus op a s).reply = s.reply := rfl
@[simp] theorem raiseBus_agentData (op : BitVec 4) (a : Word) (s : State) : (raiseBus op a s).agentData = s.agentData := rfl
@[simp] theorem raiseBus_draws (op : BitVec 4) (a : Word) (s : State) : (raiseBus op a s).draws = s.draws := rfl
@[simp] theorem raiseBus_maintained (op : BitVec 4) (a : Word) (s : State) : (raiseBus op a s).maintained = s.maintained := rfl
@[simp] theorem raiseBus_stale (op : BitVec 4) (a : Word) (s : State) : (raiseBus op a s).stale = s.stale := rfl
@[simp] theorem raiseBus_cells (op : BitVec 4) (a : Word) (s : State) : (raiseBus op a s).cells = s.cells := rfl
@[simp] theorem raiseBus_builtEntry (op : BitVec 4) (a : Word) (s : State) : (raiseBus op a s).builtEntry = s.builtEntry := rfl
@[simp] theorem raiseBus_upperCells (op : BitVec 4) (a : Word) (s : State) : (raiseBus op a s).upperCells = s.upperCells := rfl
@[simp] theorem raiseBus_inWindow (op : BitVec 4) (a : Word) (s : State) (x : Word) : (raiseBus op a s).inWindow x = s.inWindow x := rfl

/-! ## raiseAcc -/

@[simp] theorem raiseAcc_params (off : BitVec 17) (s : State) : (raiseAcc off s).params = s.params := rfl
@[simp] theorem raiseAcc_status (off : BitVec 17) (s : State) : (raiseAcc off s).status = s.status ||| BitVec.twoPow 32 22 := rfl
@[simp] theorem raiseAcc_irqEn (off : BitVec 17) (s : State) : (raiseAcc off s).irqEn = s.irqEn := rfl
@[simp] theorem raiseAcc_param (off : BitVec 17) (s : State) : (raiseAcc off s).param = s.param := rfl
@[simp] theorem raiseAcc_dstBase (off : BitVec 17) (s : State) : (raiseAcc off s).dstBase = s.dstBase := rfl
@[simp] theorem raiseAcc_dstPitch (off : BitVec 17) (s : State) : (raiseAcc off s).dstPitch = s.dstPitch := rfl
@[simp] theorem raiseAcc_dstDepth (off : BitVec 17) (s : State) : (raiseAcc off s).dstDepth = s.dstDepth := rfl
@[simp] theorem raiseAcc_lastErrOp (off : BitVec 17) (s : State) : (raiseAcc off s).lastErrOp = 0 := rfl
@[simp] theorem raiseAcc_lastErrCause (off : BitVec 17) (s : State) : (raiseAcc off s).lastErrCause = 8 := rfl
@[simp] theorem raiseAcc_faultAddr (off : BitVec 17) (s : State) : (raiseAcc off s).faultAddr = off.setWidth 32 := rfl
@[simp] theorem raiseAcc_convHsl (off : BitVec 17) (s : State) : (raiseAcc off s).convHsl = s.convHsl := rfl
@[simp] theorem raiseAcc_grid (off : BitVec 17) (s : State) : (raiseAcc off s).grid = s.grid := rfl
@[simp] theorem raiseAcc_pal (off : BitVec 17) (s : State) : (raiseAcc off s).pal = s.pal := rfl
@[simp] theorem raiseAcc_lat (off : BitVec 17) (s : State) : (raiseAcc off s).lat = s.lat := rfl
@[simp] theorem raiseAcc_snap (off : BitVec 17) (s : State) : (raiseAcc off s).snap = s.snap := rfl
@[simp] theorem raiseAcc_pos (off : BitVec 17) (s : State) : (raiseAcc off s).pos = s.pos := rfl
@[simp] theorem raiseAcc_ovfSeen (off : BitVec 17) (s : State) : (raiseAcc off s).ovfSeen = s.ovfSeen := rfl
@[simp] theorem raiseAcc_mem (off : BitVec 17) (s : State) : (raiseAcc off s).mem = s.mem := rfl
@[simp] theorem raiseAcc_turns (off : BitVec 17) (s : State) : (raiseAcc off s).turns = s.turns := rfl
@[simp] theorem raiseAcc_reply (off : BitVec 17) (s : State) : (raiseAcc off s).reply = s.reply := rfl
@[simp] theorem raiseAcc_agentData (off : BitVec 17) (s : State) : (raiseAcc off s).agentData = s.agentData := rfl
@[simp] theorem raiseAcc_draws (off : BitVec 17) (s : State) : (raiseAcc off s).draws = s.draws := rfl
@[simp] theorem raiseAcc_maintained (off : BitVec 17) (s : State) : (raiseAcc off s).maintained = s.maintained := rfl
@[simp] theorem raiseAcc_stale (off : BitVec 17) (s : State) : (raiseAcc off s).stale = s.stale := rfl
@[simp] theorem raiseAcc_cells (off : BitVec 17) (s : State) : (raiseAcc off s).cells = s.cells := rfl
@[simp] theorem raiseAcc_builtEntry (off : BitVec 17) (s : State) : (raiseAcc off s).builtEntry = s.builtEntry := rfl
@[simp] theorem raiseAcc_upperCells (off : BitVec 17) (s : State) : (raiseAcc off s).upperCells = s.upperCells := rfl
@[simp] theorem raiseAcc_inWindow (off : BitVec 17) (s : State) (x : Word) : (raiseAcc off s).inWindow x = s.inWindow x := rfl

/-! ## setCell -/

@[simp] theorem setCell_params (s : State) (i : Nat) (v : Byte) : (s.setCell i v).params = s.params := rfl
@[simp] theorem setCell_status (s : State) (i : Nat) (v : Byte) : (s.setCell i v).status = s.status := rfl
@[simp] theorem setCell_irqEn (s : State) (i : Nat) (v : Byte) : (s.setCell i v).irqEn = s.irqEn := rfl
@[simp] theorem setCell_param (s : State) (i : Nat) (v : Byte) : (s.setCell i v).param = s.param := rfl
@[simp] theorem setCell_dstBase (s : State) (i : Nat) (v : Byte) : (s.setCell i v).dstBase = s.dstBase := rfl
@[simp] theorem setCell_dstPitch (s : State) (i : Nat) (v : Byte) : (s.setCell i v).dstPitch = s.dstPitch := rfl
@[simp] theorem setCell_dstDepth (s : State) (i : Nat) (v : Byte) : (s.setCell i v).dstDepth = s.dstDepth := rfl
@[simp] theorem setCell_lastErrOp (s : State) (i : Nat) (v : Byte) : (s.setCell i v).lastErrOp = s.lastErrOp := rfl
@[simp] theorem setCell_lastErrCause (s : State) (i : Nat) (v : Byte) : (s.setCell i v).lastErrCause = s.lastErrCause := rfl
@[simp] theorem setCell_faultAddr (s : State) (i : Nat) (v : Byte) : (s.setCell i v).faultAddr = s.faultAddr := rfl
@[simp] theorem setCell_convHsl (s : State) (i : Nat) (v : Byte) : (s.setCell i v).convHsl = s.convHsl := rfl
@[simp] theorem setCell_grid (s : State) (i : Nat) (v : Byte) : (s.setCell i v).grid = Memory.write s.grid i v := rfl
@[simp] theorem setCell_pal (s : State) (i : Nat) (v : Byte) : (s.setCell i v).pal = s.pal := rfl
@[simp] theorem setCell_lat (s : State) (i : Nat) (v : Byte) : (s.setCell i v).lat = s.lat := rfl
@[simp] theorem setCell_snap (s : State) (i : Nat) (v : Byte) : (s.setCell i v).snap = s.snap := rfl
@[simp] theorem setCell_pos (s : State) (i : Nat) (v : Byte) : (s.setCell i v).pos = s.pos := rfl
@[simp] theorem setCell_ovfSeen (s : State) (i : Nat) (v : Byte) : (s.setCell i v).ovfSeen = s.ovfSeen := rfl
@[simp] theorem setCell_mem (s : State) (i : Nat) (v : Byte) : (s.setCell i v).mem = s.mem := rfl
@[simp] theorem setCell_turns (s : State) (i : Nat) (v : Byte) : (s.setCell i v).turns = s.turns := rfl
@[simp] theorem setCell_reply (s : State) (i : Nat) (v : Byte) : (s.setCell i v).reply = s.reply := rfl
@[simp] theorem setCell_agentData (s : State) (i : Nat) (v : Byte) : (s.setCell i v).agentData = s.agentData := rfl
@[simp] theorem setCell_draws (s : State) (i : Nat) (v : Byte) : (s.setCell i v).draws = s.draws := rfl
@[simp] theorem setCell_maintained (s : State) (i : Nat) (v : Byte) : (s.setCell i v).maintained = s.maintained := rfl
@[simp] theorem setCell_stale (s : State) (i : Nat) (v : Byte) : (s.setCell i v).stale = s.stale := rfl
@[simp] theorem setCell_cells (s : State) (i : Nat) (v : Byte) : (s.setCell i v).cells = s.cells := rfl
@[simp] theorem setCell_builtEntry (s : State) (i : Nat) (v : Byte) : (s.setCell i v).builtEntry = s.builtEntry := rfl
@[simp] theorem setCell_upperCells (s : State) (i : Nat) (v : Byte) : (s.setCell i v).upperCells = s.upperCells := rfl
@[simp] theorem setCell_inWindow (s : State) (i : Nat) (v : Byte) (x : Word) : (s.setCell i v).inWindow x = s.inWindow x := rfl
@[simp] theorem setCell_flag (s : State) (i : Nat) (v : Byte) (c : Nat) : (s.setCell i v).flag c = s.flag c := rfl
@[simp] theorem setCell_busy (s : State) (i : Nat) (v : Byte) : (s.setCell i v).busy = s.busy := rfl
@[simp] theorem setCell_gridValid (s : State) (i : Nat) (v : Byte) : (s.setCell i v).gridValid = s.gridValid := rfl
@[simp] theorem setCell_palValid (s : State) (i : Nat) (v : Byte) : (s.setCell i v).palValid = s.palValid := rfl

/-! ## advanceDraws -/

@[simp] theorem advanceDraws_params (s : State) (n : Nat) : (s.advanceDraws n).params = s.params := rfl
@[simp] theorem advanceDraws_status (s : State) (n : Nat) : (s.advanceDraws n).status = s.status := rfl
@[simp] theorem advanceDraws_irqEn (s : State) (n : Nat) : (s.advanceDraws n).irqEn = s.irqEn := rfl
@[simp] theorem advanceDraws_param (s : State) (n : Nat) : (s.advanceDraws n).param = s.param := rfl
@[simp] theorem advanceDraws_dstBase (s : State) (n : Nat) : (s.advanceDraws n).dstBase = s.dstBase := rfl
@[simp] theorem advanceDraws_dstPitch (s : State) (n : Nat) : (s.advanceDraws n).dstPitch = s.dstPitch := rfl
@[simp] theorem advanceDraws_dstDepth (s : State) (n : Nat) : (s.advanceDraws n).dstDepth = s.dstDepth := rfl
@[simp] theorem advanceDraws_lastErrOp (s : State) (n : Nat) : (s.advanceDraws n).lastErrOp = s.lastErrOp := rfl
@[simp] theorem advanceDraws_lastErrCause (s : State) (n : Nat) : (s.advanceDraws n).lastErrCause = s.lastErrCause := rfl
@[simp] theorem advanceDraws_faultAddr (s : State) (n : Nat) : (s.advanceDraws n).faultAddr = s.faultAddr := rfl
@[simp] theorem advanceDraws_convHsl (s : State) (n : Nat) : (s.advanceDraws n).convHsl = s.convHsl := rfl
@[simp] theorem advanceDraws_grid (s : State) (n : Nat) : (s.advanceDraws n).grid = s.grid := rfl
@[simp] theorem advanceDraws_pal (s : State) (n : Nat) : (s.advanceDraws n).pal = s.pal := rfl
@[simp] theorem advanceDraws_lat (s : State) (n : Nat) : (s.advanceDraws n).lat = s.lat := rfl
@[simp] theorem advanceDraws_snap (s : State) (n : Nat) : (s.advanceDraws n).snap = s.snap := rfl
@[simp] theorem advanceDraws_pos (s : State) (n : Nat) : (s.advanceDraws n).pos = s.pos := rfl
@[simp] theorem advanceDraws_ovfSeen (s : State) (n : Nat) : (s.advanceDraws n).ovfSeen = s.ovfSeen := rfl
@[simp] theorem advanceDraws_mem (s : State) (n : Nat) : (s.advanceDraws n).mem = s.mem := rfl
@[simp] theorem advanceDraws_turns (s : State) (n : Nat) : (s.advanceDraws n).turns = s.turns := rfl
@[simp] theorem advanceDraws_reply (s : State) (n : Nat) : (s.advanceDraws n).reply = s.reply := rfl
@[simp] theorem advanceDraws_agentData (s : State) (n : Nat) : (s.advanceDraws n).agentData = s.agentData := rfl
@[simp] theorem advanceDraws_draws (s : State) (n : Nat) : (s.advanceDraws n).draws = s.draws + n := rfl
@[simp] theorem advanceDraws_maintained (s : State) (n : Nat) : (s.advanceDraws n).maintained = s.maintained := rfl
@[simp] theorem advanceDraws_stale (s : State) (n : Nat) : (s.advanceDraws n).stale = s.stale := rfl
@[simp] theorem advanceDraws_cells (s : State) (n : Nat) : (s.advanceDraws n).cells = s.cells := rfl
@[simp] theorem advanceDraws_builtEntry (s : State) (n : Nat) : (s.advanceDraws n).builtEntry = s.builtEntry := rfl
@[simp] theorem advanceDraws_upperCells (s : State) (n : Nat) : (s.advanceDraws n).upperCells = s.upperCells := rfl
@[simp] theorem advanceDraws_inWindow (s : State) (n : Nat) (x : Word) : (s.advanceDraws n).inWindow x = s.inWindow x := rfl
@[simp] theorem advanceDraws_flag (s : State) (n : Nat) (c : Nat) : (s.advanceDraws n).flag c = s.flag c := rfl
@[simp] theorem advanceDraws_busy (s : State) (n : Nat) : (s.advanceDraws n).busy = s.busy := rfl
@[simp] theorem advanceDraws_gridValid (s : State) (n : Nat) : (s.advanceDraws n).gridValid = s.gridValid := rfl
@[simp] theorem advanceDraws_palValid (s : State) (n : Nat) : (s.advanceDraws n).palValid = s.palValid := rfl

/-! ## abort -/

@[simp] theorem abort_params (s : State) : (abort s).params = s.params := rfl
@[simp] theorem abort_status (s : State) : (abort s).status = s.status &&& ~~~(BitVec.twoPow 32 0) := rfl
@[simp] theorem abort_irqEn (s : State) : (abort s).irqEn = s.irqEn := rfl
@[simp] theorem abort_param (s : State) : (abort s).param = s.param := rfl
@[simp] theorem abort_dstBase (s : State) : (abort s).dstBase = s.dstBase := rfl
@[simp] theorem abort_dstPitch (s : State) : (abort s).dstPitch = s.dstPitch := rfl
@[simp] theorem abort_dstDepth (s : State) : (abort s).dstDepth = s.dstDepth := rfl
@[simp] theorem abort_lastErrOp (s : State) : (abort s).lastErrOp = s.lastErrOp := rfl
@[simp] theorem abort_lastErrCause (s : State) : (abort s).lastErrCause = s.lastErrCause := rfl
@[simp] theorem abort_faultAddr (s : State) : (abort s).faultAddr = s.faultAddr := rfl
@[simp] theorem abort_convHsl (s : State) : (abort s).convHsl = s.convHsl := rfl
@[simp] theorem abort_grid (s : State) : (abort s).grid = s.grid := rfl
@[simp] theorem abort_pal (s : State) : (abort s).pal = s.pal := rfl
@[simp] theorem abort_lat (s : State) : (abort s).lat = s.lat := rfl
@[simp] theorem abort_snap (s : State) : (abort s).snap = s.snap := rfl
@[simp] theorem abort_pos (s : State) : (abort s).pos = .idle := rfl
@[simp] theorem abort_ovfSeen (s : State) : (abort s).ovfSeen = s.ovfSeen := rfl
@[simp] theorem abort_mem (s : State) : (abort s).mem = s.mem := rfl
@[simp] theorem abort_turns (s : State) : (abort s).turns = s.turns := rfl
@[simp] theorem abort_reply (s : State) : (abort s).reply = s.reply := rfl
@[simp] theorem abort_agentData (s : State) : (abort s).agentData = s.agentData := rfl
@[simp] theorem abort_draws (s : State) : (abort s).draws = s.draws := rfl
@[simp] theorem abort_maintained (s : State) : (abort s).maintained = s.maintained := rfl
@[simp] theorem abort_stale (s : State) : (abort s).stale = s.stale := rfl
@[simp] theorem abort_cells (s : State) : (abort s).cells = s.cells := rfl
@[simp] theorem abort_builtEntry (s : State) : (abort s).builtEntry = s.builtEntry := rfl
@[simp] theorem abort_upperCells (s : State) : (abort s).upperCells = s.upperCells := rfl
@[simp] theorem abort_inWindow (s : State) (x : Word) : (abort s).inWindow x = s.inWindow x := rfl

/-! ## maintainTurn -/

@[simp] theorem maintainTurn_params (s : State) : (maintainTurn s).params = s.params := rfl
@[simp] theorem maintainTurn_status (s : State) : (maintainTurn s).status = s.status := rfl
@[simp] theorem maintainTurn_irqEn (s : State) : (maintainTurn s).irqEn = s.irqEn := rfl
@[simp] theorem maintainTurn_param (s : State) : (maintainTurn s).param = s.param := rfl
@[simp] theorem maintainTurn_dstBase (s : State) : (maintainTurn s).dstBase = s.dstBase := rfl
@[simp] theorem maintainTurn_dstPitch (s : State) : (maintainTurn s).dstPitch = s.dstPitch := rfl
@[simp] theorem maintainTurn_dstDepth (s : State) : (maintainTurn s).dstDepth = s.dstDepth := rfl
@[simp] theorem maintainTurn_lastErrOp (s : State) : (maintainTurn s).lastErrOp = s.lastErrOp := rfl
@[simp] theorem maintainTurn_lastErrCause (s : State) : (maintainTurn s).lastErrCause = s.lastErrCause := rfl
@[simp] theorem maintainTurn_faultAddr (s : State) : (maintainTurn s).faultAddr = s.faultAddr := rfl
@[simp] theorem maintainTurn_convHsl (s : State) : (maintainTurn s).convHsl = s.convHsl := rfl
@[simp] theorem maintainTurn_grid (s : State) : (maintainTurn s).grid = s.grid := rfl
@[simp] theorem maintainTurn_pal (s : State) : (maintainTurn s).pal = s.pal := rfl
@[simp] theorem maintainTurn_lat (s : State) : (maintainTurn s).lat = s.lat := rfl
@[simp] theorem maintainTurn_snap (s : State) : (maintainTurn s).snap = s.snap := rfl
@[simp] theorem maintainTurn_pos (s : State) : (maintainTurn s).pos = s.pos := rfl
@[simp] theorem maintainTurn_ovfSeen (s : State) : (maintainTurn s).ovfSeen = s.ovfSeen := rfl
@[simp] theorem maintainTurn_mem (s : State) : (maintainTurn s).mem = s.mem := rfl
@[simp] theorem maintainTurn_turns (s : State) : (maintainTurn s).turns = s.turns := rfl
@[simp] theorem maintainTurn_reply (s : State) : (maintainTurn s).reply = s.reply := rfl
@[simp] theorem maintainTurn_agentData (s : State) : (maintainTurn s).agentData = s.agentData := rfl
@[simp] theorem maintainTurn_draws (s : State) : (maintainTurn s).draws = s.draws := rfl
@[simp] theorem maintainTurn_cells (s : State) : (maintainTurn s).cells = s.cells := rfl
@[simp] theorem maintainTurn_upperCells (s : State) : (maintainTurn s).upperCells = s.upperCells := rfl
@[simp] theorem maintainTurn_builtEntry (s : State) : (maintainTurn s).builtEntry = s.builtEntry := rfl
@[simp] theorem maintainTurn_maintained (s : State) : (maintainTurn s).maintained = true := rfl
@[simp] theorem maintainTurn_stale (s : State) : (maintainTurn s).stale = [] := rfl
@[simp] theorem maintainTurn_visible (s : State) (a : Word) : (maintainTurn s).visible a = true := by
  simp [State.visible, maintainTurn]
@[simp] theorem maintainTurn_inWindow (s : State) (x : Word) : (maintainTurn s).inWindow x = s.inWindow x := rfl

/-! ## The converter -/

@[simp] theorem convertWith_reference : convertWith .reference = hslToRgb := rfl

/-- Under the reference converter the palette entries are those of R104's reference. -/
theorem builtEntry_reference {s : State} (h : s.params.converter = .reference) : s.builtEntry = palEntry := by
  funext x
  simp [State.builtEntry, palEntry, h]

/-! ## STATUS bits -/

/-- A bit after one is set. -/
theorem flag_setFlag (s : State) (b c : Nat) (h : c < 32) :
    (s.setFlag b).flag c = (s.flag c || decide (c = b)) := by
  simp [State.flag, State.setFlag, h, eq_comm]

/-- A bit after one is cleared. -/
theorem flag_clearFlag (s : State) (b c : Nat) (h : c < 32) :
    (s.clearFlag b).flag c = (s.flag c && !decide (c = b)) := by
  simp [State.flag, State.clearFlag, h, eq_comm]

/-- A bit after an error is raised. -/
theorem flag_raise (e : ErrorCause) (op : BitVec 4) (s : State) (c : Nat) (h : c < 32) :
    (raise e op s).flag c = (s.flag c || decide (c = e.bit)) := flag_setFlag s e.bit c h

theorem flag_raiseBus (op : BitVec 4) (a : Word) (s : State) (c : Nat) (h : c < 32) :
    (raiseBus op a s).flag c = (s.flag c || decide (c = 21)) := flag_setFlag s 21 c h

theorem flag_raiseAcc (off : BitVec 17) (s : State) (c : Nat) (h : c < 32) :
    (raiseAcc off s).flag c = (s.flag c || decide (c = 22)) := flag_setFlag s 22 c h

theorem flag_abort (s : State) (c : Nat) (h : c < 32) :
    (abort s).flag c = (s.flag c && !decide (c = 0)) := flag_clearFlag s 0 c h

/-- No error bit is BUSY or a validity bit. -/
theorem errorCause_bit_ge (e : ErrorCause) : 16 ≤ e.bit ∧ e.bit ≤ 23 := by cases e <;> decide

@[simp] theorem raise_busy (e : ErrorCause) (op : BitVec 4) (s : State) :
    (raise e op s).busy = s.busy := by
  have := errorCause_bit_ge e
  simp only [State.busy, flag_raise _ _ _ _ (show bitBusy < 32 by decide)]
  simp [bitBusy]; omega

@[simp] theorem raise_gridValid (e : ErrorCause) (op : BitVec 4) (s : State) :
    (raise e op s).gridValid = s.gridValid := by
  have := errorCause_bit_ge e
  simp only [State.gridValid, flag_raise _ _ _ _ (show bitGridValid < 32 by decide)]
  simp [bitGridValid]; omega

@[simp] theorem raise_palValid (e : ErrorCause) (op : BitVec 4) (s : State) :
    (raise e op s).palValid = s.palValid := by
  have := errorCause_bit_ge e
  simp only [State.palValid, flag_raise _ _ _ _ (show bitPalValid < 32 by decide)]
  simp [bitPalValid]; omega

/-- The bits of the W1C mask: 8 and 16 to 23 (R28). -/
theorem statusW1C_bit (b : Nat) (h : b < 32) :
    statusW1C.getLsbD b = (decide (b = 8) || (decide (16 ≤ b) && decide (b ≤ 23))) := by
  interval_cases b <;> rfl

/-- The bits of the mask of defined STATUS bits (R27). -/
theorem statusDefined_bit (b : Nat) (h : b < 32) :
    statusDefined.getLsbD b =
      (decide (b ≤ 2) || decide (b = 8) || (decide (16 ≤ b) && decide (b ≤ 23))) := by
  interval_cases b <;> rfl

/-- The bits of the error group (R170). -/
theorem statusErrors_bit (b : Nat) (h : b < 32) :
    statusErrors.getLsbD b = (decide (16 ≤ b) && decide (b ≤ 23)) := by
  interval_cases b <;> rfl

/-- A bit of STATUS after a host write (R28). -/
theorem statusAfterWrite_bit (status v : Word) (b : Nat) (h : b < 32) :
    (statusAfterWrite status v).getLsbD b =
      (status.getLsbD b && !(v.getLsbD b && (decide (b = 8) || (decide (16 ≤ b) && decide (b ≤ 23))))) := by
  simp only [statusAfterWrite, BitVec.getLsbD_and, BitVec.getLsbD_not, h, statusW1C_bit b h,
    decide_true, Bool.true_and]

end Sys2Proof.Machine
end

