-- ==== Sys2Proof/Laws/Ops.lean ====
section
/-! SUPPORT. For each shared operation, what it can do, said once: stored cells, errors, the grid window,
the master port, command control. -/

namespace Sys2Proof.Machine

/-! ## Stored cells -/

section Cells

variable {w : Nat} (m : List (Nat × BitVec w)) (a b : Nat) (v : BitVec w)

/-- A read after a write: the value at the key written, any other key as before. -/
theorem read_write : Memory.read (Memory.write m a v) b = if b = a then some v else Memory.read m b := by
  induction m with
  | nil => simp [Memory.write, Memory.read]
  | cons c rest ih =>
    obtain ⟨k, u⟩ := c
    simp only [Memory.write]
    split
    · simp [Memory.read]
    · split
      · subst_vars; simp only [Memory.read]; split <;> simp_all
      · simp only [Memory.read, ih]; split <;> split <;> simp_all

@[simp] theorem read_write_same : Memory.read (Memory.write m a v) a = some v := by simp [read_write]

theorem read_write_other (h : b ≠ a) : Memory.read (Memory.write m a v) b = Memory.read m b := by
  simp [read_write, h]

/-- A read after an erasure: nothing known at the key, any other key as before. -/
theorem read_erase : Memory.read (Memory.erase m a) b = if b = a then none else Memory.read m b := by
  induction m with
  | nil => simp [Memory.erase, Memory.read]
  | cons c rest ih =>
    obtain ⟨k, u⟩ := c
    simp only [Memory.erase, List.filter_cons] at ih ⊢
    split
    · rename_i hk
      simp only [Memory.read, ih]
      split <;> split <;> simp_all
    · rename_i hk
      have hk : k = a := by simpa using hk
      rw [ih, Memory.read]
      split
      · rfl
      · rw [if_neg (by omega)]

/-- The keys after a write are those before it and the key written. -/
theorem key_of_mem_write {c : Nat × BitVec w} (h : c ∈ Memory.write m a v) : c.1 = a ∨ c ∈ m := by
  induction m with
  | nil => simp_all [Memory.write]
  | cons d rest ih =>
    obtain ⟨k, u⟩ := d
    simp only [Memory.write] at h
    split at h
    · simp only [List.mem_cons] at h ⊢
      rcases h with h | h | h <;> simp [h]
    · split at h
      · simp only [List.mem_cons] at h ⊢
        rcases h with h | h <;> simp [h]
      · simp only [List.mem_cons] at h ⊢
        rcases h with h | h
        · simp [h]
        · rcases ih h with h | h <;> simp [h]

/-- A write below the size keeps the canonical form. -/
theorem wf_write {size : Nat} (h : Memory.wf size m) (ha : a < size) :
    Memory.wf size (Memory.write m a v) := by
  refine ⟨?_, fun c hc => ?_⟩
  · obtain ⟨hp, -⟩ := h
    induction m with
    | nil => simp [Memory.write]
    | cons d rest ih =>
      obtain ⟨k, u⟩ := d
      rw [List.pairwise_cons] at hp
      simp only [Memory.write]
      split
      · rename_i hlt
        refine List.pairwise_cons.2 ⟨fun c hc => ?_, List.pairwise_cons.2 hp⟩
        rcases List.mem_cons.1 hc with rfl | hc
        · exact hlt
        · exact Nat.lt_trans hlt (hp.1 c hc)
      · split
        · subst_vars; exact List.pairwise_cons.2 ⟨hp.1, hp.2⟩
        · refine List.pairwise_cons.2 ⟨fun c hc => ?_, ih hp.2⟩
          rcases key_of_mem_write rest a v hc with h | h
          · simp only [h]; omega
          · exact hp.1 c h
  · rcases key_of_mem_write m a v hc with h' | h'
    · omega
    · exact h.2 c h'

/-- An erasure keeps the canonical form. -/
theorem wf_erase {size : Nat} (h : Memory.wf size m) : Memory.wf size (Memory.erase m a) :=
  ⟨h.1.filter _, fun c hc => h.2 c (List.mem_filter.1 hc).1⟩

theorem wf_nil (size : Nat) : Memory.wf size ([] : List (Nat × BitVec w)) := by simp [Memory.wf]

/-- A key at or beyond the size of a canonical array is not listed. -/
theorem read_none_of_wf {size : Nat} (h : Memory.wf size m) (hb : size ≤ b) : Memory.read m b = none := by
  obtain ⟨-, hs⟩ := h
  induction m with
  | nil => rfl
  | cons d rest ih =>
    obtain ⟨k, u⟩ := d
    have hk : k < size := hs (k, u) (by simp)
    simp only [Memory.read]
    rw [if_neg (by omega)]
    exact ih fun c hc => hs c (by simp [hc])

end Cells

/-- The bytes of memory after a pixel is stored (R53). -/
theorem read_storePixel (mem : List Host.Cell) (a : Word) (v : Half) (b : Nat) :
    Memory.read (storePixel mem a v) b =
      if b = (a + 1).toNat then some (v.extractLsb' 8 8)
      else if b = a.toNat then some (v.extractLsb' 0 8) else Memory.read mem b := by
  simp only [storePixel, read_write]

/-- The bytes of memory after a pixel write failed (R135). -/
theorem read_forgetPixel (mem : List Host.Cell) (a : Word) (b : Nat) :
    Memory.read (forgetPixel mem a) b =
      if b = (a + 1).toNat then none else if b = a.toNat then none else Memory.read mem b := by
  simp only [forgetPixel, read_erase]

theorem wf_storePixel {mem : List Host.Cell} (h : Memory.wf systemSpace mem) (a : Word) (v : Half) :
    Memory.wf systemSpace (storePixel mem a v) :=
  wf_write _ _ _ (wf_write _ _ _ h a.isLt) (a + 1).isLt

theorem wf_forgetPixel {mem : List Host.Cell} (h : Memory.wf systemSpace mem) (a : Word) :
    Memory.wf systemSpace (forgetPixel mem a) := wf_erase _ _ (wf_erase _ _ h)

/-! ## Stale bytes -/

/-- An address joins the list, and no other does. -/
@[simp] theorem mem_addAddress (l : List Nat) (a b : Nat) : b ∈ addAddress l a ↔ b = a ∨ b ∈ l := by
  induction l with
  | nil => simp [addAddress]
  | cons k rest ih =>
    simp only [addAddress]
    split
    · simp
    · split
      · subst_vars; simp
      · simp only [List.mem_cons, ih]; exact or_left_comm

/-- An address below the size joins a canonical list and leaves it canonical. -/
theorem wf_addAddress {size a : Nat} {l : List Nat} (h : AddressesWf size l) (ha : a < size) :
    AddressesWf size (addAddress l a) := by
  refine ⟨?_, fun b hb => ?_⟩
  · obtain ⟨hp, -⟩ := h
    induction l with
    | nil => simp [addAddress]
    | cons k rest ih =>
      rw [List.pairwise_cons] at hp
      simp only [addAddress]
      split
      · rename_i hlt
        refine List.pairwise_cons.2 ⟨fun b hb => ?_, List.pairwise_cons.2 hp⟩
        rcases List.mem_cons.1 hb with rfl | hb
        · exact hlt
        · exact Nat.lt_trans hlt (hp.1 b hb)
      · split
        · exact List.pairwise_cons.2 hp
        · refine List.pairwise_cons.2 ⟨fun b hb => ?_, ih hp.2⟩
          rcases (mem_addAddress _ _ _).1 hb with rfl | hb
          · omega
          · exact hp.1 b hb
  · rcases (mem_addAddress _ _ _).1 hb with rfl | hb
    · exact ha
    · exact h.2 b hb

/-- A pixel write marks its two bytes and no other. -/
@[simp] theorem mem_markPixel (l : List Nat) (a : Word) (b : Nat) :
    b ∈ markPixel l a ↔ b = (a + 1).toNat ∨ b = a.toNat ∨ b ∈ l := by simp [markPixel]

theorem wf_markPixel {l : List Nat} (h : AddressesWf systemSpace l) (a : Word) :
    AddressesWf systemSpace (markPixel l a) :=
  wf_addAddress (wf_addAddress h a.isLt) (a + 1).isLt

/-- When another agent reads what memory holds (R64). -/
theorem visible_iff (s : State) (a : Word) :
    s.visible a = true ↔ s.params.dmaCoherent = true ∨ (s.maintained = true ∧ a.toNat ∉ s.stale) := by
  simp [State.visible]

/-- The byte another agent reads where memory's content is known and visible (R64). -/
theorem agentByte_of_visible {s : State} {a : Word} {v : Byte} (hv : s.visible a = true)
    (hm : Memory.read s.mem a.toNat = some v) : agentByte a s = v := by
  simp [agentByte, hv, hm]

/-! ## Errors -/

/-- Setting error bits touches STATUS alone. -/
theorem setErrorBits_frame (fails : List ErrorCause) (s : State) :
    setErrorBits fails s = { s with status := (setErrorBits fails s).status } := by
  induction fails generalizing s with
  | nil => rfl
  | cons e rest ih => rw [setErrorBits, ih]; rfl

/-- A STATUS bit after error bits are set. -/
theorem flag_setErrorBits (fails : List ErrorCause) (s : State) (c : Nat) (h : c < 32) :
    (setErrorBits fails s).flag c = (s.flag c || fails.any fun e => decide (c = e.bit)) := by
  induction fails generalizing s with
  | nil => simp [setErrorBits]
  | cons e rest ih =>
    rw [setErrorBits, ih, flag_setFlag _ _ _ h, List.any_cons, Bool.or_assoc]

/-- `raise_all` touches STATUS and LAST_ERR alone (R162). -/
theorem raiseAll_frame (fails : List ErrorCause) (op : BitVec 4) (s : State) :
    raiseAll fails op s =
      { s with status := (raiseAll fails op s).status, lastErrOp := (raiseAll fails op s).lastErrOp,
               lastErrCause := (raiseAll fails op s).lastErrCause } := by
  cases fails with
  | nil => rfl
  | cons e rest => rw [raiseAll, setErrorBits_frame]

/-- A STATUS bit after `raise_all`. -/
theorem flag_raiseAll (fails : List ErrorCause) (op : BitVec 4) (s : State) (c : Nat) (h : c < 32) :
    (raiseAll fails op s).flag c = (s.flag c || fails.any fun e => decide (c = e.bit)) := by
  cases fails with
  | nil => simp [raiseAll]
  | cons e rest => exact flag_setErrorBits (e :: rest) s c h

/-! ## The grid window -/

/-- Storing cells touches the grid alone. -/
theorem storeCells_frame (n k i : Nat) (d : Word) (s : State) :
    storeCells n k i d s = { s with grid := (storeCells n k i d s).grid } := by
  induction n generalizing k i s with
  | zero => rfl
  | succ n ih =>
    rw [storeCells, ih]
    split <;> rfl

theorem storeCells_params (n k i : Nat) (d : Word) (s : State) :
    (storeCells n k i d s).params = s.params := by rw [storeCells_frame]

/-- The cells after `n` data bytes are stored from index `i` on (R146). -/
theorem read_storeCells (n k i : Nat) (d : Word) (s : State) (j : Nat) :
    Memory.read (storeCells n k i d s).grid j =
      if i ≤ j ∧ j < i + n ∧ j < s.cells then some (dataByte d (k + (j - i)))
      else Memory.read s.grid j := by
  induction n generalizing k i s with
  | zero => rw [storeCells, if_neg (by omega)]
  | succ n ih =>
    rw [storeCells, ih]
    by_cases hi : i < s.cells
    · simp only [if_pos hi, setCell_cells, setCell_grid, read_write]
      by_cases hj : j = i
      · subst hj
        rw [if_neg (by omega), if_pos rfl, if_pos (by omega)]; simp
      · rw [if_neg hj]
        by_cases hc : i ≤ j ∧ j < i + (n + 1) ∧ j < s.cells
        · rw [if_pos (by omega), if_pos hc]; congr 2; omega
        · rw [if_neg (by omega), if_neg hc]
    · simp only [if_neg hi]
      rw [if_neg (by omega), if_neg (by omega)]

/-- Storing cells keeps the canonical form. -/
theorem wf_storeCells (n k i : Nat) (d : Word) (s : State) (h : Memory.wf s.cells s.grid) :
    Memory.wf s.cells (storeCells n k i d s).grid := by
  induction n generalizing k i s with
  | zero => exact h
  | succ n ih =>
    rw [storeCells]
    split
    · rename_i hi
      exact ih (k + 1) (i + 1) (s.setCell i (dataByte d k)) (wf_write _ _ _ h hi)
    · exact ih (k + 1) (i + 1) s h

/-- A byte of an assembled word is the byte of its lane (R52). -/
theorem dataByte_assemble (f : Nat → Byte) (k : Nat) (h : k < 4) : dataByte (assemble f) k = f k := by
  unfold dataByte assemble
  ext j hj
  rw [BitVec.getElem_extractLsb', BitVec.getLsbD_append, BitVec.getLsbD_append, BitVec.getLsbD_append,
    ← BitVec.getLsbD_eq_getElem hj]
  interval_cases k <;> (split_ifs <;> first | omega | (congr 1; omega))

/-- The lanes of a refused grid read beyond the cells are 0 (R51). -/
theorem drawLane_reserved (n i k : Nat) (s : State) (h : s.cells ≤ i + k) : drawLane n i s k = 0 := by
  rw [drawLane, if_neg (by omega)]

/-- What a grid window write can do (R146, R51). -/
theorem gridWrite_cases (n i : Nat) (d : Word) (s : State) :
    (s.busy = true ∧ i < s.cells ∧ gridWrite n i d s = raiseAcc (BitVec.ofNat 17 (0x10000 + i)) s) ∨
    (s.busy = true ∧ s.cells ≤ i ∧ gridWrite n i d s = s) ∨
    (s.busy = false ∧ gridWrite n i d s = storeCells n 0 i d s) := by
  unfold gridWrite
  cases hb : s.busy with
  | false => exact .inr (.inr ⟨rfl, by simp⟩)
  | true =>
    by_cases hi : i < s.cells
    · exact .inl ⟨rfl, hi, by simp [hi]⟩
    · exact .inr (.inl ⟨rfl, by omega, by simp [hi]⟩)

/-! ## The master port -/

/-- What a write to the block's own window can do (log 17). -/
theorem ownWindowWrite_cases (off : Nat) (v : Half) (s : State) :
    ownWindowWrite off v s = (s, false) ∨ ownWindowWrite off v s = (s, true) ∨
      ∃ i, ownWindowWrite off v s = (gridWrite 2 i (v.setWidth 32) s, true) := by
  unfold ownWindowWrite
  split
  · exact .inl rfl
  · split
    · exact .inr (.inl rfl)
    · exact .inr (.inr ⟨_, rfl⟩)

/-- What a pixel write can do: it is stored, it is lost with an error, or it goes to the block's own
window (R56, R135; log 17). -/
theorem memWrite_cases (a : Word) (v : Half) (r : PortResponse) (s : State) :
    (s.inWindow a = false ∧ r = .ok ∧
      memWrite a v r s = ({ s with mem := storePixel s.mem a v, stale := markPixel s.stale a }, true)) ∨
    (s.inWindow a = false ∧ r = .error ∧
      memWrite a v r s = ({ s with mem := forgetPixel s.mem a, stale := markPixel s.stale a }, false)) ∨
    (s.inWindow a = true ∧ (memWrite a v r s = (s, false) ∨ memWrite a v r s = (s, true) ∨
      ∃ i, memWrite a v r s = (gridWrite 2 i (v.setWidth 32) s, true))) := by
  unfold memWrite
  cases r <;> cases hw : s.inWindow a <;> simp [ownWindowWrite_cases]

/-- What an issued pixel write can leave when reset is asserted: memory changes by that pixel at most, and
nothing else of what reset keeps (R190, U23). -/
theorem landInFlight_cases (f : Option PortResponse) (s : State) :
    landInFlight f s = s ∨
      ∃ r i, f = some r ∧ s.pos = .blit i ∧ i < s.upperCells ∧
        landInFlight f s = (memWrite (s.pixelAddr i) (s.pixelValue i) r s).1 := by
  unfold landInFlight
  split
  · rename_i r i hp
    split
    · rename_i hi
      exact .inr ⟨r, i, rfl, hp, hi, rfl⟩
    · exact .inl rfl
  · exact .inl rfl

/-! ## Command control -/

/-- What a legal command word can do: refused because busy, accepted, or refused by its checks (R140). -/
theorem issue_cases (c : Command) (s : State) :
    (s.busy = true ∧ issue c s = raise .cmdBusy c.opcode s) ∨
    (s.busy = false ∧ acceptFails c s = [] ∧ issue c s = accept c s) ∨
    (s.busy = false ∧ acceptFails c s ≠ [] ∧ issue c s = raiseAll (acceptFails c s) c.opcode s) := by
  unfold issue
  cases hb : s.busy with
  | true => exact .inl ⟨rfl, by simp⟩
  | false =>
    by_cases hf : acceptFails c s = []
    · exact .inr (.inl ⟨rfl, hf, by simp [hf]⟩)
    · exact .inr (.inr ⟨rfl, hf, by simp [hf]⟩)

/-- The acceptance checks all pass exactly when no condition of R140 holds. -/
theorem acceptFails_eq_nil (c : Command) (s : State) :
    acceptFails c s = [] ↔
      failsNoInit c s = false ∧ failsDepth c s = false ∧ failsAlign c s = false ∧
        failsDiv0 c s = false := by
  unfold acceptFails
  cases failsNoInit c s <;> cases failsDepth c s <;> cases failsAlign c s <;> cases failsDiv0 c s <;>
    decide

/-- Acceptance, field by field (R72, R140). -/
theorem accept_eq (c : Command) (s : State) :
    accept c s =
      { s with status := s.status ||| BitVec.twoPow 32 bitBusy, lat := latchOperands c s,
               pos := startPos c,
               snap := if Command.diffuses c then s.grid else s.snap,
               ovfSeen := if Command.diffuses c then false else s.ovfSeen } := by
  unfold accept takeSnapshot
  split <;> rfl

/-- Completion touches STATUS and the engine's position alone (R141). -/
theorem complete_frame (s : State) : complete s = { s with status := (complete s).status, pos := .idle } := by
  unfold complete markValid
  split <;> rfl

/-- A STATUS bit after completion: BUSY clear, DONE set, the validity bits of the command set (R27, R141). -/
theorem flag_complete (s : State) (c : Nat) (h : c < 32) :
    (complete s).flag c =
      ((s.flag c || (decide (c = 1) && (decide (s.lat.op = .init) || decide (s.lat.op = .clear))) ||
        (decide (c = 2) && (decide (s.lat.op = .init) || decide (s.lat.op = .buildPal)))) &&
          !decide (c = 0) || decide (c = 8)) := by
  have hx : (complete s).flag c = (((markValid s).clearFlag bitBusy).setFlag bitDone).flag c := rfl
  rw [hx, flag_setFlag _ _ _ h, flag_clearFlag _ _ _ h]
  unfold markValid
  cases s.lat.op <;> simp [flag_setFlag _ _ _ h, bitBusy, bitDone, bitGridValid, bitPalValid,
    Bool.or_comm, Bool.or_left_comm]

/-! ## The step -/

/-- What one step does: it takes the next turn, or, where there is none, lets the engine move. -/
theorem step_nil {s : State} (h : s.turns = []) : step s = .next (autonomousTurn s) := by
  simp [step, h]

theorem step_cons {s : State} {t : Turn} {rest : List Turn} (h : s.turns = t :: rest) :
    step s = takeTurn t { s with turns := rest } := by
  simp [step, h]

end Sys2Proof.Machine
end

