-- ==== Sys2Proof/Laws/PerInstr.lean ====
section
/-! SUPPORT. The per-instruction family RowMatch: the word the encoder writes for an instruction matches the
match and mask of the instruction's own row of spec/opcode_table.json (R70, R71, R74). -/

namespace Sys2Proof.Laws.RowMatch

/-- The encoded word of `i` is a legal command word, or a key that matches the row of its mnemonic. -/
def Statement (i : Instr) : Prop :=
  match encode i with
  | .cmd v => cmdRsv v = 0 ∧ (cmdOp v).toNat < 7
  | .mmio key _ _ => ∃ r ∈ mmioRows, r.mnemonic = i.mnemonic ∧ r.matchesKey key = true

/-- A register row is a row. -/
theorem mem_of_register {r : MmioRow} (h : r ∈ registerRows) : r ∈ mmioRows := List.mem_append_left _ h

/-- A window row is a row. -/
theorem mem_of_window {r : MmioRow} (h : r ∈ windowRows) : r ∈ mmioRows := List.mem_append_right _ h

/-- A key with any direction bit on top of a constant matches a row whose mask leaves that bit out. -/
theorem matches_dir (dir : BitVec 1) (off mask : BitVec 17) (h : off &&& mask = off) :
    ((dir ++ off : BitVec 18) &&& (0#1 ++ mask)) = (0#1 ++ off : BitVec 18) := by
  rw [BitVec.and_append, h, BitVec.and_zero]

/-- An offset with `n` free low bits under a constant matches the mask of the constant's bits. -/
theorem matches_low {m n : Nat} (top : BitVec m) (off : BitVec n) :
    ((top ++ off : BitVec (m + n)) &&& (BitVec.allOnes m ++ 0#n)) = top ++ 0#n := by
  rw [BitVec.and_append, BitVec.and_allOnes, BitVec.and_zero]

/-- A reserved key with `n` free low bits matches its row. -/
theorem matches_reserved {m n : Nat} (dir : BitVec 1) (top : BitVec m) (off : BitVec n) :
    ((dir ++ (top ++ off) : BitVec (1 + (m + n))) &&& (0#1 ++ (BitVec.allOnes m ++ 0#n))) =
      0#1 ++ (top ++ 0#n) := by
  rw [BitVec.and_append, matches_low, BitVec.and_zero]

/-- A palette key matches its row: the index bits are free, the two low bits are 0. -/
theorem matches_palette (top : BitVec 8) (index : Byte) :
    ((top ++ index ++ 0b00#2 : BitVec 18) &&& (0xFF#8 ++ 0#8 ++ 0b11#2)) = (top ++ 0#8 ++ 0b00#2) := by
  rw [BitVec.and_append, BitVec.and_append, BitVec.and_zero, BitVec.zero_and,
    show (0xFF#8 : BitVec 8) = BitVec.allOnes 8 from rfl, BitVec.and_allOnes]

theorem nop : Statement .nop := ⟨by decide, by decide⟩

theorem init : Statement .init := ⟨by decide, by decide⟩

theorem clear : Statement .clear := ⟨by decide, by decide⟩

theorem buildPal : Statement .buildPal := ⟨by decide, by decide⟩

theorem step : Statement .step := ⟨by decide, by decide⟩

theorem render : Statement .render := ⟨by decide, by decide⟩

theorem effect : Statement .effect := ⟨by decide, by decide⟩

theorem rdId (w : Width) : Statement (.rdId w) :=
  ⟨⟨"RD_ID", 0x00000, 0x3FFFF⟩, mem_of_register (by simp [registerRows]), rfl, by decide⟩

theorem wrId (w : Width) (v : Word) : Statement (.wrId w v) :=
  ⟨⟨"WR_ID", 0x20000, 0x3FFFF⟩, mem_of_register (by simp [registerRows]), rfl, by decide⟩

theorem rdGeom (w : Width) : Statement (.rdGeom w) :=
  ⟨⟨"RD_GEOM", 0x00004, 0x3FFFF⟩, mem_of_register (by simp [registerRows]), rfl, by decide⟩

theorem wrGeom (w : Width) (v : Word) : Statement (.wrGeom w v) :=
  ⟨⟨"WR_GEOM", 0x20004, 0x3FFFF⟩, mem_of_register (by simp [registerRows]), rfl, by decide⟩

theorem rdCmd (w : Width) : Statement (.rdCmd w) :=
  ⟨⟨"RD_CMD", 0x00008, 0x3FFFF⟩, mem_of_register (by simp [registerRows]), rfl, by decide⟩

theorem wrCmd (w : Width) (v : Word) : Statement (.wrCmd w v) :=
  ⟨⟨"WR_CMD", 0x20008, 0x3FFFF⟩, mem_of_register (by simp [registerRows]), rfl, by decide⟩

theorem rdStatus (w : Width) : Statement (.rdStatus w) :=
  ⟨⟨"RD_STATUS", 0x0000C, 0x3FFFF⟩, mem_of_register (by simp [registerRows]), rfl, by decide⟩

theorem wrStatus (w : Width) (v : Word) : Statement (.wrStatus w v) :=
  ⟨⟨"WR_STATUS", 0x2000C, 0x3FFFF⟩, mem_of_register (by simp [registerRows]), rfl, by decide⟩

theorem rdIrqEn (w : Width) : Statement (.rdIrqEn w) :=
  ⟨⟨"RD_IRQ_EN", 0x00010, 0x3FFFF⟩, mem_of_register (by simp [registerRows]), rfl, by decide⟩

theorem wrIrqEn (w : Width) (v : Word) : Statement (.wrIrqEn w v) :=
  ⟨⟨"WR_IRQ_EN", 0x20010, 0x3FFFF⟩, mem_of_register (by simp [registerRows]), rfl, by decide⟩

theorem rdParam (w : Width) : Statement (.rdParam w) :=
  ⟨⟨"RD_PARAM", 0x00014, 0x3FFFF⟩, mem_of_register (by simp [registerRows]), rfl, by decide⟩

theorem wrParam (w : Width) (v : Word) : Statement (.wrParam w v) :=
  ⟨⟨"WR_PARAM", 0x20014, 0x3FFFF⟩, mem_of_register (by simp [registerRows]), rfl, by decide⟩

theorem rdDstBase (w : Width) : Statement (.rdDstBase w) :=
  ⟨⟨"RD_DST_BASE", 0x00018, 0x3FFFF⟩, mem_of_register (by simp [registerRows]), rfl, by decide⟩

theorem wrDstBase (w : Width) (v : Word) : Statement (.wrDstBase w v) :=
  ⟨⟨"WR_DST_BASE", 0x20018, 0x3FFFF⟩, mem_of_register (by simp [registerRows]), rfl, by decide⟩

theorem rdDstPitch (w : Width) : Statement (.rdDstPitch w) :=
  ⟨⟨"RD_DST_PITCH", 0x0001C, 0x3FFFF⟩, mem_of_register (by simp [registerRows]), rfl, by decide⟩

theorem wrDstPitch (w : Width) (v : Word) : Statement (.wrDstPitch w v) :=
  ⟨⟨"WR_DST_PITCH", 0x2001C, 0x3FFFF⟩, mem_of_register (by simp [registerRows]), rfl, by decide⟩

theorem rdDstDepth (w : Width) : Statement (.rdDstDepth w) :=
  ⟨⟨"RD_DST_DEPTH", 0x00020, 0x3FFFF⟩, mem_of_register (by simp [registerRows]), rfl, by decide⟩

theorem wrDstDepth (w : Width) (v : Word) : Statement (.wrDstDepth w v) :=
  ⟨⟨"WR_DST_DEPTH", 0x20020, 0x3FFFF⟩, mem_of_register (by simp [registerRows]), rfl, by decide⟩

theorem rdLastErr (w : Width) : Statement (.rdLastErr w) :=
  ⟨⟨"RD_LAST_ERR", 0x00024, 0x3FFFF⟩, mem_of_register (by simp [registerRows]), rfl, by decide⟩

theorem wrLastErr (w : Width) (v : Word) : Statement (.wrLastErr w v) :=
  ⟨⟨"WR_LAST_ERR", 0x20024, 0x3FFFF⟩, mem_of_register (by simp [registerRows]), rfl, by decide⟩

theorem rdFaultAddr (w : Width) : Statement (.rdFaultAddr w) :=
  ⟨⟨"RD_FAULT_ADDR", 0x00028, 0x3FFFF⟩, mem_of_register (by simp [registerRows]), rfl, by decide⟩

theorem wrFaultAddr (w : Width) (v : Word) : Statement (.wrFaultAddr w v) :=
  ⟨⟨"WR_FAULT_ADDR", 0x20028, 0x3FFFF⟩, mem_of_register (by simp [registerRows]), rfl, by decide⟩

theorem rdConvHsl (w : Width) : Statement (.rdConvHsl w) :=
  ⟨⟨"RD_CONV_HSL", 0x00030, 0x3FFFF⟩, mem_of_register (by simp [registerRows]), rfl, by decide⟩

theorem conv (w : Width) (v : Word) : Statement (.conv w v) :=
  ⟨⟨"CONV", 0x20030, 0x3FFFF⟩, mem_of_register (by simp [registerRows]), rfl, by decide⟩

theorem rdConvRgb (w : Width) : Statement (.rdConvRgb w) :=
  ⟨⟨"RD_CONV_RGB", 0x00034, 0x3FFFF⟩, mem_of_register (by simp [registerRows]), rfl, by decide⟩

theorem wrConvRgb (w : Width) (v : Word) : Statement (.wrConvRgb w v) :=
  ⟨⟨"WR_CONV_RGB", 0x20034, 0x3FFFF⟩, mem_of_register (by simp [registerRows]), rfl, by decide⟩

theorem rdConvPix (w : Width) : Statement (.rdConvPix w) :=
  ⟨⟨"RD_CONV_PIX", 0x00038, 0x3FFFF⟩, mem_of_register (by simp [registerRows]), rfl, by decide⟩

theorem wrConvPix (w : Width) (v : Word) : Statement (.wrConvPix w v) :=
  ⟨⟨"WR_CONV_PIX", 0x20038, 0x3FFFF⟩, mem_of_register (by simp [registerRows]), rfl, by decide⟩

theorem rdPal (index : Byte) (w : Width) : Statement (.rdPal index w) :=
  ⟨⟨"RD_PAL", 0x00400, 0x3FC03⟩, mem_of_window (by simp [windowRows]), rfl, beq_iff_eq.2 (matches_palette 0b0_0000001#8 index)⟩

theorem wrPal (index : Byte) (w : Width) (v : Word) : Statement (.wrPal index w v) :=
  ⟨⟨"WR_PAL", 0x20400, 0x3FC03⟩, mem_of_window (by simp [windowRows]), rfl, beq_iff_eq.2 (matches_palette 0b1_0000001#8 index)⟩

theorem rdGrid (off : BitVec 16) (w : Width) : Statement (.rdGrid off w) :=
  ⟨⟨"RD_GRID", 0x10000, 0x30000⟩, mem_of_window (by simp [windowRows]), rfl, by
    have h := matches_low 0b01#2 off
    exact beq_iff_eq.2 h⟩

theorem wrGrid (off : BitVec 16) (w : Width) (v : Word) : Statement (.wrGrid off w v) :=
  ⟨⟨"WR_GRID", 0x30000, 0x30000⟩, mem_of_window (by simp [windowRows]), rfl, by
    have h := matches_low 0b11#2 off
    exact beq_iff_eq.2 h⟩

theorem rsv0002C (w : Width) (a : RsvAccess) : Statement (.rsv0002C w a) :=
  ⟨⟨"RSV_0002C_0002C", 0x0002C, 0x1FFFF⟩, mem_of_window (by simp [windowRows]), rfl, by
    have h := matches_dir a.dir 0x0002C#17 0x1FFFF#17 (by decide)
    exact beq_iff_eq.2 h⟩

theorem rsv0003C (w : Width) (a : RsvAccess) : Statement (.rsv0003C w a) :=
  ⟨⟨"RSV_0003C_0003C", 0x0003C, 0x1FFFF⟩, mem_of_window (by simp [windowRows]), rfl, by
    have h := matches_dir a.dir 0x0003C#17 0x1FFFF#17 (by decide)
    exact beq_iff_eq.2 h⟩

theorem rsv00040 (off : BitVec 6) (w : Width) (a : RsvAccess) : Statement (.rsv00040 off w a) :=
  ⟨⟨"RSV_00040_0007F", 0x00040, 0x1FFC0⟩, mem_of_window (by simp [windowRows]), rfl, by
    have h := matches_reserved a.dir 0b00000000001#11 off
    exact beq_iff_eq.2 h⟩

theorem rsv00080 (off : BitVec 7) (w : Width) (a : RsvAccess) : Statement (.rsv00080 off w a) :=
  ⟨⟨"RSV_00080_000FF", 0x00080, 0x1FF80⟩, mem_of_window (by simp [windowRows]), rfl, by
    have h := matches_reserved a.dir 0b0000000001#10 off
    exact beq_iff_eq.2 h⟩

theorem rsv00100 (off : BitVec 8) (w : Width) (a : RsvAccess) : Statement (.rsv00100 off w a) :=
  ⟨⟨"RSV_00100_001FF", 0x00100, 0x1FF00⟩, mem_of_window (by simp [windowRows]), rfl, by
    have h := matches_reserved a.dir 0b000000001#9 off
    exact beq_iff_eq.2 h⟩

theorem rsv00200 (off : BitVec 9) (w : Width) (a : RsvAccess) : Statement (.rsv00200 off w a) :=
  ⟨⟨"RSV_00200_003FF", 0x00200, 0x1FE00⟩, mem_of_window (by simp [windowRows]), rfl, by
    have h := matches_reserved a.dir 0b00000001#8 off
    exact beq_iff_eq.2 h⟩

theorem rsv00800 (off : BitVec 11) (w : Width) (a : RsvAccess) : Statement (.rsv00800 off w a) :=
  ⟨⟨"RSV_00800_00FFF", 0x00800, 0x1F800⟩, mem_of_window (by simp [windowRows]), rfl, by
    have h := matches_reserved a.dir 0b000001#6 off
    exact beq_iff_eq.2 h⟩

theorem rsv01000 (off : BitVec 12) (w : Width) (a : RsvAccess) : Statement (.rsv01000 off w a) :=
  ⟨⟨"RSV_01000_01FFF", 0x01000, 0x1F000⟩, mem_of_window (by simp [windowRows]), rfl, by
    have h := matches_reserved a.dir 0b00001#5 off
    exact beq_iff_eq.2 h⟩

theorem rsv02000 (off : BitVec 13) (w : Width) (a : RsvAccess) : Statement (.rsv02000 off w a) :=
  ⟨⟨"RSV_02000_03FFF", 0x02000, 0x1E000⟩, mem_of_window (by simp [windowRows]), rfl, by
    have h := matches_reserved a.dir 0b0001#4 off
    exact beq_iff_eq.2 h⟩

theorem rsv04000 (off : BitVec 14) (w : Width) (a : RsvAccess) : Statement (.rsv04000 off w a) :=
  ⟨⟨"RSV_04000_07FFF", 0x04000, 0x1C000⟩, mem_of_window (by simp [windowRows]), rfl, by
    have h := matches_reserved a.dir 0b001#3 off
    exact beq_iff_eq.2 h⟩

theorem rsv08000 (off : BitVec 15) (w : Width) (a : RsvAccess) : Statement (.rsv08000 off w a) :=
  ⟨⟨"RSV_08000_0FFFF", 0x08000, 0x18000⟩, mem_of_window (by simp [windowRows]), rfl, by
    have h := matches_reserved a.dir 0b01#2 off
    exact beq_iff_eq.2 h⟩

end Sys2Proof.Laws.RowMatch
end

