-- ==== Sys2Proof/Tests/Slice0.lean ====
section
/-! SUPPORT. Tests: well-formedness, the decoding of one word of every row written out bit by bit from
30_encoding.md, single steps with the values of 95_test_vectors.md, and a witness for the hypotheses of
every statement. -/

namespace Sys2Proof.Tests

open Sys2Proof Sys2Proof.Machine Sys2Proof.Claims

/-! ## Well-formedness: a width has one spelling -/

theorem test_wf_other_one_refused : (Instr.rdId (.other 1)).wellFormed = false := by decide
theorem test_wf_other_two_refused : (Instr.wrGrid 0 (.other 2) 0).wellFormed = false := by decide
theorem test_wf_other_four_refused : (Instr.rsv0002C (.other 4) .read).wellFormed = false := by decide
theorem test_wf_other_eight_accepted : (Instr.rdPal 0 (.other 8)).wellFormed = true := by decide
theorem test_wf_command_accepted : Instr.effect.wellFormed = true := by decide

/-! ## Decoding: bit 31:4 RSV and 3:0 OP of a CMD word (R70, R71); bit 17 direction and 16:0 offset of an
MMIO key (R74, R23) -/

theorem test_decode_commands :
    decode (.cmd 0b0000000000000000000000000000_0000) = .ok .nop ∧
    decode (.cmd 0b0000000000000000000000000000_0001) = .ok .init ∧
    decode (.cmd 0b0000000000000000000000000000_0010) = .ok .clear ∧
    decode (.cmd 0b0000000000000000000000000000_0011) = .ok .buildPal ∧
    decode (.cmd 0b0000000000000000000000000000_0100) = .ok .step ∧
    decode (.cmd 0b0000000000000000000000000000_0101) = .ok .render ∧
    decode (.cmd 0b0000000000000000000000000000_0110) = .ok .effect := by decide

theorem test_decode_illegal_commands :
    decode (.cmd 0b0000000000000000000000000000_0111) = .error (.illegalCommand 7) ∧
    decode (.cmd 0b0000000000000000000000000000_1111) = .error (.illegalCommand 15) ∧
    decode (.cmd 0b0000000000000000000000000001_0010) = .error (.illegalCommand 18) ∧
    decode (.cmd 0b1000000000000000000000000000_0000) = .error (.illegalCommand 0x80000000) := by decide

theorem test_decode_id_geom_cmd_status :
    decode (.mmio 0b0_0_0000_0000_0000_0000 .w32 0) = .ok (.rdId .w32) ∧
    decode (.mmio 0b1_0_0000_0000_0000_0000 .w32 1) = .ok (.wrId .w32 1) ∧
    decode (.mmio 0b0_0_0000_0000_0000_0100 .w16 0) = .ok (.rdGeom .w16) ∧
    decode (.mmio 0b1_0_0000_0000_0000_0100 .w32 2) = .ok (.wrGeom .w32 2) ∧
    decode (.mmio 0b0_0_0000_0000_0000_1000 .w32 0) = .ok (.rdCmd .w32) ∧
    decode (.mmio 0b1_0_0000_0000_0000_1000 .w32 6) = .ok (.wrCmd .w32 6) ∧
    decode (.mmio 0b0_0_0000_0000_0000_1100 .w32 0) = .ok (.rdStatus .w32) ∧
    decode (.mmio 0b1_0_0000_0000_0000_1100 .w32 0x100) = .ok (.wrStatus .w32 0x100) := by decide

theorem test_decode_irq_param_dst :
    decode (.mmio 0b0_0_0000_0000_0001_0000 .w32 0) = .ok (.rdIrqEn .w32) ∧
    decode (.mmio 0b1_0_0000_0000_0001_0000 .w32 3) = .ok (.wrIrqEn .w32 3) ∧
    decode (.mmio 0b0_0_0000_0000_0001_0100 .w32 0) = .ok (.rdParam .w32) ∧
    decode (.mmio 0b1_0_0000_0000_0001_0100 .w32 0x0020001E) = .ok (.wrParam .w32 0x0020001E) ∧
    decode (.mmio 0b0_0_0000_0000_0001_1000 .w32 0) = .ok (.rdDstBase .w32) ∧
    decode (.mmio 0b1_0_0000_0000_0001_1000 .w32 0x20000000) = .ok (.wrDstBase .w32 0x20000000) ∧
    decode (.mmio 0b0_0_0000_0000_0001_1100 .w32 0) = .ok (.rdDstPitch .w32) ∧
    decode (.mmio 0b1_0_0000_0000_0001_1100 .w32 8) = .ok (.wrDstPitch .w32 8) ∧
    decode (.mmio 0b0_0_0000_0000_0010_0000 .w32 0) = .ok (.rdDstDepth .w32) ∧
    decode (.mmio 0b1_0_0000_0000_0010_0000 .w32 16) = .ok (.wrDstDepth .w32 16) := by decide

theorem test_decode_errors_and_converter :
    decode (.mmio 0b0_0_0000_0000_0010_0100 .w32 0) = .ok (.rdLastErr .w32) ∧
    decode (.mmio 0b1_0_0000_0000_0010_0100 .w32 1) = .ok (.wrLastErr .w32 1) ∧
    decode (.mmio 0b0_0_0000_0000_0010_1000 .w32 0) = .ok (.rdFaultAddr .w32) ∧
    decode (.mmio 0b1_0_0000_0000_0010_1000 .w32 1) = .ok (.wrFaultAddr .w32 1) ∧
    decode (.mmio 0b0_0_0000_0000_0011_0000 .w32 0) = .ok (.rdConvHsl .w32) ∧
    decode (.mmio 0b1_0_0000_0000_0011_0000 .w32 0x0080FF00) = .ok (.conv .w32 0x0080FF00) ∧
    decode (.mmio 0b0_0_0000_0000_0011_0100 .w32 0) = .ok (.rdConvRgb .w32) ∧
    decode (.mmio 0b1_0_0000_0000_0011_0100 .w32 1) = .ok (.wrConvRgb .w32 1) ∧
    decode (.mmio 0b0_0_0000_0000_0011_1000 .w32 0) = .ok (.rdConvPix .w32) ∧
    decode (.mmio 0b1_0_0000_0000_0011_1000 .w32 1) = .ok (.wrConvPix .w32 1) := by decide

theorem test_decode_windows :
    decode (.mmio 0b0_0_0000_0100_0000_0000 .w32 0) = .ok (.rdPal 0 .w32) ∧
    decode (.mmio 0b0_0_0000_0111_1111_1100 .w32 0) = .ok (.rdPal 255 .w32) ∧
    decode (.mmio 0b1_0_0000_0100_0000_0100 .w32 5) = .ok (.wrPal 1 .w32 5) ∧
    decode (.mmio 0b0_1_0000_0000_0000_0000 .w8 0) = .ok (.rdGrid 0 .w8) ∧
    decode (.mmio 0b0_1_1111_1111_1111_1111 .w8 0) = .ok (.rdGrid 0xFFFF .w8) ∧
    decode (.mmio 0b1_1_0000_0000_0000_0110 .w16 0x1234) = .ok (.wrGrid 6 .w16 0x1234) := by decide

theorem test_decode_reserved :
    decode (.mmio 0b0_0_0000_0000_0010_1100 .w32 0) = .ok (.rsv0002C .w32 .read) ∧
    decode (.mmio 0b1_0_0000_0000_0011_1100 .w32 9) = .ok (.rsv0003C .w32 (.write 9)) ∧
    decode (.mmio 0b0_0_0000_0000_0111_1111 .w8 0) = .ok (.rsv00040 0x3F .w8 .read) ∧
    decode (.mmio 0b1_0_0000_0000_1000_0100 .w32 9) = .ok (.rsv00080 4 .w32 (.write 9)) ∧
    decode (.mmio 0b0_0_0000_0001_0000_0000 .w32 0) = .ok (.rsv00100 0 .w32 .read) ∧
    decode (.mmio 0b0_0_0000_0011_1111_1100 .w32 0) = .ok (.rsv00200 0x1FC .w32 .read) ∧
    decode (.mmio 0b0_0_0000_1000_0000_0000 .w8 0) = .ok (.rsv00800 0 .w8 .read) ∧
    decode (.mmio 0b1_0_0001_0000_0000_0010 .w16 9) = .ok (.rsv01000 2 .w16 (.write 9)) ∧
    decode (.mmio 0b0_0_0011_1111_1111_1111 .w8 0) = .ok (.rsv02000 0x1FFF .w8 .read) ∧
    decode (.mmio 0b0_0_0100_0000_0000_0000 .w32 0) = .ok (.rsv04000 0 .w32 .read) ∧
    decode (.mmio 0b1_0_1111_1111_1111_1111 .w8 9) = .ok (.rsv08000 0x7FFF .w8 (.write 9)) := by decide

theorem test_decode_misaligned_is_no_row :
    decode (.mmio 0b0_0_0000_0000_0000_0001 .w32 0) = .error (.noRow 1) ∧
    decode (.mmio 0b1_0_0000_0111_1111_1111 .w32 0) = .error (.noRow 0x207FF) := by decide

theorem test_table_words :
    decodeTableWord 32 4 = some .step ∧ decodeTableWord 24 0x2000C = some (.wrStatus .w32 0) ∧
    decodeTableWord 24 0x10000 = some (.rdGrid 0 .w32) ∧ decodeTableWord 32 7 = none := by decide

/-! ## States for the tests -/

/-- What a statement looks at in the state after an instruction. -/
def after {α : Type} (o : Host.Outcome State Fault Refusal) (f : State → α) : Option α :=
  match o with
  | .next t => some (f t)
  | .fault _ => none
  | .refused _ => none

/-- A 4 × 4 grid, row 0 first (95_test_vectors.md). -/
def gridOf (cells : List Byte) : List Host.Cell := cells.mapIdx fun k v => (k, v)

/-- All sixteen cells equal. -/
def filled (v : Byte) : List Host.Cell := gridOf (List.replicate 16 v)

/-- The grid of the RENDER vectors. -/
def rvGrid : List Host.Cell := gridOf [0, 64, 128, 255, 1, 2, 3, 4, 10, 20, 30, 40, 9, 9, 9, 9]

/-- The palette that BUILD_PAL leaves. -/
def builtPal : List (Nat × Half) := (List.range 256).map fun k => (k, palEntry (BitVec.ofNat 8 k))

/-- The block after `run INIT` and `ack`, with the operands of a frame and the given grid. -/
def ready (grid : List Host.Cell) : State :=
  { State.reset with status := 0x6, grid := grid, pal := builtPal, param := 0x0020001E
                     dstBase := 0x20000000, dstPitch := 8 }

/-- The engine in the middle of a command. -/
def running (c : Command) (pos : EnginePos) : State :=
  { ready rvGrid with
    status := 0x7, pos := pos, snap := rvGrid
    lat := { op := c, mult := 1, div := 1, base := 0x20000000, pitch := 8 } }

/-! ## Registers -/

theorem test_rdId : after (exec (.rdId .w32) State.reset) (·.reply) = some (.data 0x46495245) := by decide
theorem test_rdId_narrow : after (exec (.rdId .w8) State.reset) (·.reply) = some .error := by decide
theorem test_wrId : after (exec (.wrId .w32 5) State.reset) (fun t => (t.reply, t.status)) =
    some (.done, 0) := by decide
theorem test_rdGeom : after (exec (.rdGeom .w32) State.reset) (·.reply) = some (.data 0x00040004) := by
  decide
theorem test_rdCmd : after (exec (.rdCmd .w32) State.reset) (·.reply) = some (.data 0) := by decide
theorem test_wrCmd_illegal_op : after (exec (.wrCmd .w32 0x7) State.reset)
    (fun t => (t.status, t.lastErr)) = some (0x00010000, 0x00000701) := by decide
theorem test_wrCmd_reserved_bits : after (exec (.wrCmd .w32 0x12) State.reset)
    (fun t => (t.status, t.lastErr)) = some (0x00010000, 0x00000201) := by decide
theorem test_rdStatus : after (exec (.rdStatus .w32) { State.reset with status := 0x106 }) (·.reply) =
    some (.data 0x106) := by decide
theorem test_wrStatus_clears_w1c : after (exec (.wrStatus .w32 0xFFFFFFFF)
    { State.reset with status := 0x00FF0106 }) (·.status) = some 0x6 := by decide
theorem test_wrStatus_narrow : after (exec (.wrStatus .w16 0x100) { State.reset with status := 0x106 })
    (fun t => (t.status, t.reply)) = some (0x106, .error) := by decide
theorem test_wrIrqEn_raises_pending : after (exec (.wrIrqEn .w32 0xFFFFFFFD)
    { State.reset with status := 0x100 }) (fun t => (t.irqEn, t.irq)) = some (1, true) := by decide
theorem test_irq_vectors :
    ({ State.reset with irqEn := 1, status := 0x100 } : State).irq = true ∧
    ({ State.reset with irqEn := 1, status := 0x10000 } : State).irq = false ∧
    ({ State.reset with irqEn := 2, status := 0x800000 } : State).irq = true ∧
    ({ State.reset with irqEn := 0, status := 0xFF0107 } : State).irq = false := by decide
theorem test_wrParam : after (exec (.wrParam .w32 0x00040001) State.reset) (fun t => (t.div, t.mult)) =
    some (4, 1) := by decide
theorem test_wrDstBase : after (exec (.wrDstBase .w32 0x20000001) State.reset) (·.dstBase) =
    some 0x20000001 := by decide
theorem test_wrDstPitch : after (exec (.wrDstPitch .w32 7) State.reset) (·.dstPitch) = some 7 := by decide
theorem test_wrDstDepth_keeps_low_byte : after (exec (.wrDstDepth .w32 0x110) State.reset)
    (·.dstDepth) = some 0x10 := by decide
theorem test_rdDstDepth_reset : after (exec (.rdDstDepth .w32) State.reset) (·.reply) =
    some (.data 16) := by decide
theorem test_rdLastErr : after (exec (.rdLastErr .w32)
    { State.reset with lastErrOp := 5, lastErrCause := 7 }) (·.reply) = some (.data 0x00000507) := by
  decide
theorem test_conv_drops_top_byte : after (exec (.conv .w32 0xFF80FF00) State.reset)
    (fun t => (t.convHsl, t.convRgb, t.convPix)) = some (0x80FF00, 0x000101FF, 0x00F8F800) := by decide
theorem test_conv_grey_blue : after (exec (.conv .w32 0x00408080) State.reset)
    (fun t => (t.convRgb, t.convPix)) = some (0x0060601F, 0x0C1B1B0C) := by decide
theorem test_rsv_reads_zero : after (exec (.rsv0002C .w32 .read) State.reset) (·.reply) =
    some (.data 0) := by decide
theorem test_rsv_misaligned : after (exec (.rsv00040 2 .w32 .read) State.reset) (·.reply) =
    some .error := by decide
theorem test_rsv_bytes : after (exec (.rsv08000 1 .w8 (.write 5)) State.reset) (·.reply) =
    some .done := by decide

/-! ## The windows -/

theorem test_wrGrid_halfword : after (exec (.wrGrid 6 .w16 0x1234) (ready (filled 0)))
    (fun t => (Memory.read t.grid 6, Memory.read t.grid 7)) = some (some 0x34, some 0x12) := by decide
theorem test_wrGrid_misaligned : after (exec (.wrGrid 2 .w32 0x01020304) (ready (filled 0)))
    (fun t => (t.grid, t.reply)) = some (filled 0, .error) := by decide
theorem test_wrGrid_busy : after (exec (.wrGrid 5 .w8 7) { ready (filled 0) with status := 7 })
    (fun t => (t.status, t.lastErr, t.faultAddr, t.grid)) =
      some (0x00400007, 8, 0x00010005, filled 0) := by decide
theorem test_rdGrid_halfword : after (exec (.rdGrid 6 .w16)
    (ready (gridOf [0, 0, 0, 0, 0x11, 0x22, 0x33, 0x44]))) (·.reply) = some (.data 0x4433) := by decide
theorem test_rdGrid_beyond_the_cells : after (exec (.rdGrid 0x10 .w8) State.reset) (·.reply) =
    some (.data 0) := by decide
theorem test_rdPal : after (exec (.rdPal 64 .w32) { State.reset with status := 4, pal := [(64, 0xE0FB)] })
    (·.reply) = some (.data 0xE0FB) := by decide
theorem test_wrPal_busy : after (exec (.wrPal 0 .w32 5) { State.reset with status := 1 })
    (fun t => (t.status, t.pal, t.reply)) = some (1, [], .done) := by decide

/-! ## Commands: acceptance and refusal -/

theorem test_nop_accepted : after (exec .nop State.reset) (fun t => (t.status, t.pos)) =
    some (1, .finish) := by decide
theorem test_init_accepted : after (exec .init State.reset) (fun t => (t.status, t.pos)) =
    some (1, .pal 0) := by decide
theorem test_clear_accepted : after (exec .clear State.reset) (fun t => (t.status, t.pos)) =
    some (1, .clear 0) := by decide
theorem test_clear_while_busy : after (exec .clear (running .init (.pal 3)))
    (fun t => (t.status, t.lastErr, t.pos)) = some (0x00010007, 0x00000202, .pal 3) := by decide
theorem test_buildPal_accepted : after (exec .buildPal State.reset) (fun t => (t.status, t.pos)) =
    some (1, .pal 0) := by decide
theorem test_step_refused : after (exec .step State.reset) (fun t => (t.status, t.lastErr)) =
    some (0x00120000, 0x00000403) := by decide
theorem test_step_accepted : after (exec .step { State.reset with status := 2, param := 0x00040001 })
    (fun t => (t.status, t.lat.mult, t.lat.div, t.pos)) = some (3, 1, 4, .step 0) := by decide
theorem test_effect_refused : after (exec .effect State.reset) (fun t => (t.status, t.lastErr)) =
    some (0x00120000, 0x00000603) := by decide
theorem test_render_refused : after (exec .render { State.reset with dstDepth := 8, dstBase := 1 })
    (fun t => (t.status, t.lastErr)) = some (0x000E0000, 0x00000503) := by decide

/-! ## Single turns of the engine -/

/-- STEP-1's cell (1, 2) over the bed [10, 20, 30, 40] at 1/4 is 15, and STEP-5's overflow stores 252. -/
theorem test_step_turn_values :
    (stepTurn 9 { running .step (.step 9) with
      snap := gridOf [0, 0, 0, 0, 0, 0, 0, 0, 0, 0, 0, 0, 10, 20, 30, 40]
      lat := { op := .step, mult := 1, div := 4, base := 0, pitch := 0 } }).cell 9 = 15 ∧
    (stepTurn 0 { running .step (.step 0) with snap := filled 255 }).cell 0 = 252 ∧
    (stepTurn 0 { running .step (.step 0) with snap := filled 255 }).ovfSeen = true := by decide

/-- RV-5: the address wraps at 2^32. -/
theorem test_pixel_address_wraps :
    pixelAddress { op := .render, mult := 0, div := 0, base := 0xFFFFFFF8, pitch := 8 } 1 0 = 0 := by decide

/-- RV-1: cell (1, 0) is 64; its pixel goes out as FB E0. -/
theorem test_pixel_bytes :
    let s : State := { running .render (.blit 1) with pal := [(64, 0xE0FB)] }
    (blitTurn .ok 1 s).mem = [(0x20000002, 0xFB), (0x20000003, 0xE0)] := by decide

/-- RV-6: an error response at the first pixel of row 2. -/
theorem test_bus_error :
    let t := blitTurn .error 8 { running .render (.blit 8) with pal := [] }
    t.status = 0x00200006 ∧ t.lastErr = 0x00000507 ∧ t.faultAddr = 0x20000010 ∧ t.pos = .idle := by decide

/-- EV-2: the end of INIT. -/
theorem test_complete_init :
    (complete { State.reset with status := 1, pos := .finish, lat := { Latches.initial with op := .init } }).status
      = 0x106 := by decide

/-- The draws of HP-1. -/
def hpDraws : Nat → Byte
  | 0 => 0x40
  | 1 => 0x80
  | 2 => 0xC8
  | _ => 0xFF

/-- HP-1: one 32-bit write, and the same row in a mix of widths. -/
theorem test_feed :
    feedLines Params.example4x4 [.w32] hpDraws = [.wr .w32 0x1000C 0xFFC88040] ∧
    feedLines Params.example4x4 [.w16, .w8, .w8] hpDraws =
      [.wr .w16 0x1000C 0x8040, .wr .w8 0x1000E 0xC8, .wr .w8 0x1000F 0xFF] ∧
    legalMix Params.example4x4 [.w8, .w16, .w8] 0 = false := by decide

/-- HP-4 and HP-5: the two "on" bits of the first font column, under the masked code. -/
theorem test_put_char :
    putCharLines { Params.example4x4 with gridW := 8, gridH := 8 } .lsbTop
      (fun n c => if n = 0x42 ∧ c = 0 then 0x81 else 0) 0xC1 0 0 ⟨120, by decide⟩ =
      [.wr .w8 0x10000 120, .wr .w8 0x10038 120] := by decide

/-- R64: without coherence a host reads what memory holds once the caches are maintained, and a pixel write
ends that. -/
theorem test_maintenance :
    let s : State := { State.reset with
      params := { Params.example4x4 with dmaCoherent := false }, mem := [(0x1000, 7)] }
    (agentReadTurn 0x1000 (maintainTurn s)).agentData = 7 ∧
    (agentReadTurn 0x1000 (memWrite 0x2000 0xFFFF .ok (maintainTurn s)).1).agentData = 7 ∧
    (memWrite 0x2000 0xFFFF .ok (maintainTurn s)).1.visible 0x2001 = false ∧
    (maintainTurn (memWrite 0x2000 0xFFFF .ok (maintainTurn s)).1).visible 0x2001 = true := by decide

/-- R51 while busy: a word read at the last cell of a 3 × 3 grid has 0 in its three reserved bytes. -/
theorem test_busy_read_across_the_end :
    let s := State.initial { Params.example4x4 with gridW := 3, gridH := 3 }
    (drawLane 4 8 s 1, drawLane 4 8 s 2, drawLane 4 8 s 3) = (0, 0, 0) := by decide

/-! ## Witnesses: for every statement with hypotheses, a state and operands that meet them -/

theorem read_range_map (f : Nat → Half) (n k j : Nat) :
    Memory.read ((List.range' k n).map fun i => (i, f i)) j = if k ≤ j ∧ j < k + n then some (f j) else none := by
  induction n generalizing k with
  | zero => simp [Memory.read]
  | succ n ih =>
    simp only [List.range'_succ, List.map_cons, Memory.read, ih]
    rcases Nat.lt_trichotomy j k with h | h | h
    · rw [if_neg (by omega), if_neg (by omega), if_neg (by omega)]
    · subst h
      rw [if_pos rfl, if_pos (by omega)]
    · rw [if_neg (by omega)]
      congr 1
      simp only [eq_iff_iff]
      omega

/-- The palette of the test states holds the value of R104 in every entry. -/
theorem read_builtPal (x : Byte) : Memory.read builtPal x.toNat = some (palEntry x) := by
  have h := read_range_map (fun k => palEntry (BitVec.ofNat 8 k)) 256 0 x.toNat
  rw [if_pos ⟨by omega, by omega⟩] at h
  simpa [builtPal, List.range_eq_range'] using h

theorem paletteBuilt_ready (g : List Host.Cell) : PaletteBuilt (ready g) := read_builtPal

theorem cellsKnown_rvGrid : CellsKnown 16 rvGrid := by unfold CellsKnown; decide
theorem cellsKnown_zero : CellsKnown 16 (filled 0) := by unfold CellsKnown; decide
theorem cellsKnown_255 : CellsKnown 16 (filled 255) := by unfold CellsKnown; decide

theorem acceptable_ready (c : Command) (g : List Host.Cell) : acceptable c (ready g) := by
  cases c <;>
    simp [acceptable, missesArray, wrongDepth, oddDestination, zeroDivider, ready, State.reset, State.initial]

theorem valid_example : Params.example4x4.Valid := by decide

/-- An idle and a busy block, for the commands that need no array. -/
theorem witness_idle_and_busy : State.reset.busy = false ∧ (running .clear (.clear 3)).busy = true := by decide

theorem witness_NopSetsDoneAndNothingElse :
    State.reset.busy = false ∧ (running .clear (.clear 3)).busy = true := witness_idle_and_busy

theorem witness_ClearZeroesEveryCell :
    State.reset.busy = false ∧ (running .clear (.clear 3)).busy = true := witness_idle_and_busy

theorem witness_BuildPalFillsEveryEntry :
    State.reset.busy = false ∧ (running .clear (.clear 3)).busy = true := witness_idle_and_busy

theorem witness_InitBuildsThePaletteAndClearsTheGrid :
    State.reset.busy = false ∧ (running .clear (.clear 3)).busy = true := witness_idle_and_busy

/-- The shared hypotheses of the statements about a command that runs to completion. -/
theorem witness_readyFor (c : Command) :
    readyFor c (ready rvGrid) ∧ readyFor c (ready (filled 0)) ∧ readyFor c (ready (filled 255)) :=
  ⟨⟨valid_example, by decide, cellsKnown_rvGrid, paletteBuilt_ready _, acceptable_ready c _⟩,
    ⟨valid_example, by decide, cellsKnown_zero, paletteBuilt_ready _, acceptable_ready c _⟩,
    ⟨valid_example, by decide, cellsKnown_255, paletteBuilt_ready _, acceptable_ready c _⟩⟩

theorem witness_StepRunsTheDecodedOperation :
    ({ State.reset with turns := [.host (.cmd 4)] } : State).turns = .host (.cmd 4) :: [] ∧
    decode (.cmd 4) = .ok .step ∧ Instr.step.wellFormed = true := by decide

theorem witness_DecodeOfEncodeIsTheInstruction :
    (Instr.rsv08000 0x7FFF (.other 0) (.write 0xFFFFFFFF)).wellFormed = true := by decide

theorem witness_EncodeOfDecodeIsTheTransaction :
    decode (.mmio 0x3FFFF (.other 3) 7) = .ok (.wrGrid 0xFFFF (.other 3) 7) ∧
    decode (.mmio 0x1FFFF .w8 7) = .ok (.rdGrid 0xFFFF .w8) := by decide

theorem witness_DecoderFollowsTheOpcodeTable :
    (∃ r ∈ mmioRows, r.matchesKey 0x007FC = true ∧ r.mnemonic = "RD_PAL") ∧
    decode (.mmio 0x007FD .w32 0) = .error (.noRow 0x007FD) := by decide

theorem witness_CommandWordDecodingIsTotal :
    (16 ≤ (16 : Word).toNat ∨ 7 ≤ (16 : Word).toNat % 16) ∧
    (16 ≤ (7 : Word).toNat ∨ 7 ≤ (7 : Word).toNat % 16) ∧
    ¬ (16 ≤ (6 : Word).toNat ∨ 7 ≤ (6 : Word).toNat % 16) ∧
    (running .init (.pal 3)).busy = true ∧
    ({ State.reset with turns := [.host (.cmd 7)] } : State).turns = .host (.cmd 7) :: [] := by decide

theorem witness_RegisterReadsReturnTheirValue :
    State.reset.params.Valid ∧ StatusWf (running .step (.step 0)) ∧
    convertWith State.reset.params.converter (BitVec.ofNat 8 State.reset.convHsl.toNat)
      (BitVec.ofNat 8 (State.reset.convHsl.toNat / 0x100))
      (BitVec.ofNat 8 (State.reset.convHsl.toNat / 0x10000)) = (0, 0, 0) := by unfold StatusWf; decide

/-- A state for each bit the engine can set right after the host's clear. -/
theorem witness_StatusWriteOneToClear :
    let two (s : State) (r : PortResponse) : State :=
      { s with turns := [.host (.mmio 0b1_00000000000001100 .w32 0xFFFFFFFF), .engine r] }
    ((two (running .nop .finish) .ok).turns =
        [.host (.mmio 0b1_00000000000001100 .w32 0xFFFFFFFF), .engine .ok] ∧
      (two (running .nop .finish) .ok).pos = .finish) ∧
    (let s := two { running .step (.step 12) with ovfSeen := true } .ok
     s.pos = .step 12 ∧ s.upperCells ≤ 12 ∧ s.ovfSeen = true) ∧
    (let s := two (running .render (.blit 0)) .error
     s.pos = .blit 0 ∧ 0 < s.upperCells ∧ s.inWindow (s.pixelAddr 0) = false) ∧
    (engineTurn .ok { two (running .nop .finish) .ok with
      status := (two (running .nop .finish) .ok).status &&& ~~~0x00FF0100 }).status.getLsbD 8 = true := by
  decide

theorem witness_ReservedOffsetsReadZeroAndIgnoreWrites :
    (reservedAt (.rsv0002C .w32 .read) = some (0x2C, .w32, .read) ∧ legalAccess 0x2C .w32) ∧
    (reservedAt (.rsv00200 0x1FC .w32 (.write 1)) = some (0x3FC, .w32, .write 1) ∧ legalAccess 0x3FC .w32) ∧
    (reservedAt (.rsv00800 1 .w8 .read) = some (0x801, .w8, .read) ∧ legalAccess 0x801 .w8) ∧
    (reservedAt (.rsv08000 0x7FFE .w16 .read) = some (0xFFFE, .w16, .read) ∧ legalAccess 0xFFFE .w16) := by
  unfold legalAccess
  exact ⟨⟨rfl, by decide⟩, ⟨rfl, by decide⟩, ⟨rfl, by decide⟩, ⟨rfl, by decide⟩⟩

theorem witness_IllegalAccessGetsAnErrorResponse :
    ({ State.reset with turns := [.host (.mmio 0x7FC .w16 0)] } : State).turns =
      .host (.mmio 0x7FC .w16 0) :: [] ∧
    ¬ legalAccess ((0x7FC : BitVec 18).toNat % 0x20000) .w16 ∧
    ¬ legalAccess ((0x207FF : BitVec 18).toNat % 0x20000) .w32 ∧
    ¬ legalAccess ((0x30001 : BitVec 18).toNat % 0x20000) .w16 ∧
    legalAccess ((0x7FC : BitVec 18).toNat % 0x20000) .w32 ∧
    legalAccess ((0x800 : BitVec 18).toNat % 0x20000) .w8 ∧
    legalAccess ((0x3FFFE : BitVec 18).toNat % 0x20000) .w16 := by
  unfold legalAccess; decide

theorem witness_IllegalOrBusyCommandIsDiscarded :
    (16 ≤ (0xFFFFFFF0 : Word).toNat ∨ 7 ≤ (0xFFFFFFF0 : Word).toNat % 16) ∧
    (running .render (.blit 0)).busy = true := by decide

/-- One state for each of the four smallest causes; STEP fails only by its array or its divider. -/
theorem witness_RefusalSetsEveryFailingBit :
    (State.reset.busy = false ∧ missesArray .step State.reset) ∧
    (¬ missesArray .render { ready rvGrid with dstDepth := 17 } ∧
      wrongDepth .render { ready rvGrid with dstDepth := 17 }) ∧
    (¬ missesArray .effect { ready rvGrid with dstPitch := 7 } ∧
      ¬ wrongDepth .effect { ready rvGrid with dstPitch := 7 } ∧
      oddDestination .effect { ready rvGrid with dstPitch := 7 }) ∧
    (¬ missesArray .step { ready rvGrid with param := 0xFFFF } ∧
      ¬ wrongDepth .step { ready rvGrid with param := 0xFFFF } ∧
      ¬ oddDestination .step { ready rvGrid with param := 0xFFFF } ∧
      zeroDivider .step { ready rvGrid with param := 0xFFFF } ∧
      ¬ acceptable .step { ready rvGrid with param := 0xFFFF }) := by
  unfold acceptable missesArray wrongDepth oddDestination zeroDivider
  refine ⟨⟨by decide, by decide⟩, ⟨by decide, by decide⟩, ⟨by decide, by decide, by decide⟩, ?_⟩
  exact ⟨by decide, by decide, by decide, by decide, fun h => h.2.2.2 (by decide)⟩

theorem witness_AcceptanceLatchesOperandsAndStartsTheEngine (c : Command) :
    (ready rvGrid).busy = false ∧ acceptable c (ready rvGrid) := ⟨by decide, acceptable_ready c _⟩

theorem not_overflows_zero : ¬ overflows (ready (filled 0)) := by
  rintro ⟨y, x, hy, hx, h⟩
  replace hy : y < 3 := Nat.lt_of_succ_lt_succ hy
  replace hx : x < 4 := hx
  interval_cases y <;> interval_cases x <;> revert h <;> decide

theorem overflows_255 : overflows (ready (filled 255)) := ⟨0, 0, by decide, by decide, by decide⟩

/-- Both cases of STEP and EFFECT; `witness_readyFor` has the other hypotheses. -/
theorem witness_StepAdvancesOneGeneration :
    readyFor .step (ready (filled 0)) ∧ ¬ overflows (ready (filled 0)) ∧
    readyFor .step (ready (filled 255)) ∧ overflows (ready (filled 255)) :=
  ⟨(witness_readyFor .step).2.1, not_overflows_zero, (witness_readyFor .step).2.2, overflows_255⟩

theorem witness_zero_grid : ∀ k, k < (ready (filled 0)).cells → Memory.read (ready (filled 0)).grid k = some 0 := by
  decide

theorem witness_ZeroGridIsAFixedPointOfStep :
    (ready (filled 0)).params.Valid ∧ (ready (filled 0)).busy = false ∧ acceptable .step (ready (filled 0)) ∧
    ∀ k, k < (ready (filled 0)).cells → Memory.read (ready (filled 0)).grid k = some 0 :=
  ⟨valid_example, by decide, acceptable_ready _ _, witness_zero_grid⟩

theorem witness_OverflowExactlyAtTheBound :
    2 ≤ (ready rvGrid).params.gridH ∧ (running .step (.step 0)).lat.div ≠ 0 ∧ (ready rvGrid).status.getLsbD 23 = false ∧
    (let s : State := { running .step (.step 0) with lat := latched .step (ready rvGrid) }
     s.lat.mult = 30 ∧ s.lat.div = 32) ∧ readyFor .step (ready rvGrid) :=
  ⟨by decide, by decide, by decide, by decide, (witness_readyFor .step).1⟩

theorem outsideWindow_ready (g : List Host.Cell) : outsideWindow (ready g) := by
  intro y x hy hx
  replace hy : y < 3 := Nat.lt_of_succ_lt_succ hy
  replace hx : x < 4 := hx
  left
  interval_cases y <;> interval_cases x <;> change _ < 0x40000000 <;>
    simp [pixelAt, ready, State.reset, State.initial, Params.example4x4]

/-- The last pixel, and a pixel whose address a later one has (pitch 0). -/
theorem witness_lastAtItsAddress :
    lastAtItsAddress (ready rvGrid) 2 3 ∧ lastAtItsAddress (ready rvGrid) 0 0 ∧
    ¬ lastAtItsAddress { ready rvGrid with dstPitch := 0 } 0 0 := by
  refine ⟨fun y x h hy hx => ?_, fun y x h hy hx => ?_, fun h => ?_⟩
  · replace hy : y < 3 := Nat.lt_of_succ_lt_succ hy
    replace hx : x < 4 := hx
    omega
  · replace hy : y < 3 := Nat.lt_of_succ_lt_succ hy
    replace hx : x < 4 := hx
    revert h
    interval_cases y <;> interval_cases x <;> decide
  · exact h 1 0 (by decide) (by decide) (by decide) (by decide)

theorem witness_RenderWritesTheImage :
    readyFor .render (ready rvGrid) ∧ outsideWindow (ready rvGrid) ∧ lastAtItsAddress (ready rvGrid) 0 0 ∧
    ∀ y x, y + 1 < (ready rvGrid).params.gridH → x < (ready rvGrid).params.gridW →
      0x20000018 ≠ (pixelAt (ready rvGrid) y x).toNat ∧ 0x20000018 ≠ (pixelAt (ready rvGrid) y x).toNat + 1 := by
  refine ⟨(witness_readyFor .render).1, outsideWindow_ready _, witness_lastAtItsAddress.2.1, fun y x hy hx => ?_⟩
  replace hy : y < 3 := Nat.lt_of_succ_lt_succ hy
  replace hx : x < 4 := hx
  interval_cases y <;> interval_cases x <;> decide

theorem witness_ZeroGridRendersBlack :
    readyFor .render (ready (filled 0)) ∧ outsideWindow (ready (filled 0)) ∧
    (ready (filled 0)).params.converter = .reference ∧
    ∀ k, k < (ready (filled 0)).cells → Memory.read (ready (filled 0)).grid k = some 0 :=
  ⟨(witness_readyFor .render).2.1, outsideWindow_ready _, rfl, witness_zero_grid⟩

theorem witness_EffectIsStepThenRender :
    (readyFor .effect (ready (filled 0)) ∧ outsideWindow (ready (filled 0)) ∧ ¬ overflows (ready (filled 0))) ∧
    (readyFor .effect (ready (filled 255)) ∧ outsideWindow (ready (filled 255)) ∧
      overflows (ready (filled 255))) :=
  ⟨⟨(witness_readyFor .effect).2.1, outsideWindow_ready _, not_overflows_zero⟩,
    ⟨(witness_readyFor .effect).2.2, outsideWindow_ready _, overflows_255⟩⟩

/-- A small running state, with the one palette entry the pixel needs. -/
def drawing (i : Nat) (base : Word) (t : Turn) : State :=
  { running .render (.blit i) with
    pal := [(40, 0x80A1), (255, 0xFFFF)], turns := [t]
    lat := { op := .render, mult := 0, div := 0, base := base, pitch := 8 } }

theorem witness_PixelTurnStoresTwoBytes :
    let s := drawing 11 0x20000000 (.engine .ok)
    s.turns = .engine .ok :: [] ∧ s.pos = .blit 11 ∧ 11 < s.upperCells ∧ s.inWindow (s.pixelAddr 11) = false ∧
    Memory.read s.grid 11 = some 40 ∧ Memory.read s.pal (40 : Byte).toNat = some 0x80A1 := by decide

theorem witness_BusErrorAbortsTheCommand :
    let s := drawing 11 0x20000000 (.engine .error)
    s.turns = .engine .error :: [] ∧ s.pos = .blit 11 ∧ 11 < s.upperCells ∧
    s.inWindow (s.pixelAddr 11) = false := by decide

/-- The last offset of each of the four regions, and the first of reserved space and of the grid window. -/
theorem witness_OwnWindowPixelGoesToTheSlavePort :
    let s (base : Word) := drawing 3 base (.engine .ok)
    (s 0).turns = .engine .ok :: [] ∧ (s 0).pos = .blit 3 ∧ (s 0).busy = true ∧ 3 < (s 0).upperCells ∧
    ((s 0x400007F8).pixelAddr 3).toNat = (s 0x400007F8).params.fireBase.toNat + 0x7FE ∧
    ((s 0x400007FA).pixelAddr 3).toNat = (s 0x400007FA).params.fireBase.toNat + 0x800 ∧
    ((s 0x4000FFF8).pixelAddr 3).toNat = (s 0x4000FFF8).params.fireBase.toNat + 0xFFFE ∧
    ((s 0x4000FFFA).pixelAddr 3).toNat = (s 0x4000FFFA).params.fireBase.toNat + 0x10000 ∧
    0x1000E - 0x10000 < (s 0x40010008).cells ∧
    ((s 0x40010008).pixelAddr 3).toNat = (s 0x40010008).params.fireBase.toNat + 0x1000E ∧
    (s 0x4001000A).cells ≤ 0x10010 - 0x10000 ∧
    ((s 0x4001000A).pixelAddr 3).toNat = (s 0x4001000A).params.fireBase.toNat + 0x10010 ∧
    ((s 0x4001FFF8).pixelAddr 3).toNat = (s 0x4001FFF8).params.fireBase.toNat + 0x1FFFE ∧
    (drawing 3 0x4001FFF8 (.engine .error)).turns = .engine .error :: [] := by decide

/-- On a platform that is not coherent, its caches maintained: the last pixel of an image, and a byte beyond. -/
def maintainedDrawing : State :=
  { drawing 11 0x20000000 (.engine .ok) with
    params := { Params.example4x4 with dmaCoherent := false }, maintained := true, mem := [(0x20000018, 5)] }

/-! ### The invariant and the whole machine -/

theorem inv_reset : Inv State.reset where
  params := valid_example
  storage := by unfold StorageWf; decide
  status := by unfold StatusWf; decide
  arrays := by constructor <;> intro h <;> exact absurd h (by decide)
  engine := show State.reset.busy = false by decide
  cause := by decide

theorem wf_builtPal : Memory.wf 256 builtPal := by
  constructor
  · simp only [builtPal, List.pairwise_map]
    exact List.pairwise_lt_range
  · simp only [builtPal, List.mem_map, List.mem_range]
    rintro c ⟨k, hk, rfl⟩
    exact hk

theorem storageWf_running (c : Command) (p : EnginePos) : StorageWf (running c p) :=
  ⟨wf_nil _, (by decide : Memory.wf 16 rvGrid), wf_builtPal, (by decide : Memory.wf 16 rvGrid),
    (by decide : AddressesWf systemSpace [])⟩

/-- A RENDER at a pixel, in a state that meets the invariant. -/
theorem inv_running_render : Inv (running .render (.blit 11)) where
  params := valid_example
  storage := storageWf_running _ _
  status := by unfold StatusWf; decide
  arrays := ⟨fun _ => cellsKnown_rvGrid, fun _ => read_builtPal⟩
  engine := ⟨by decide, .inl rfl, by decide, by decide, by decide, by unfold DestinationEven; decide⟩
  cause := by decide

theorem step_running_eq (s : State) (h : s.turns = []) : ∃ t, step s = .next t := ⟨_, step_nil h⟩

theorem witness_EveryStepKeepsInv :
    (Inv State.reset ∧ ∃ t, step State.reset = .next t) ∧
    (Inv (running .render (.blit 11)) ∧ ∃ t, step (running .render (.blit 11)) = .next t) :=
  ⟨⟨inv_reset, step_running_eq _ rfl⟩, ⟨inv_running_render, step_running_eq _ rfl⟩⟩

theorem witness_InvHoldsAfterReset :
    ({ gridW := 1, gridH := 65535, fireBase := 0, dmaCoherent := false, converter := .other 0 } : Params).Valid ∧
    ({ Params.example4x4 with gridW := 256, gridH := 256, fireBase := 0xFFFE0000 } : Params).Valid := by decide

theorem witness_EveryStepKeepsStorageCanonical :
    StorageWf (running .clear (.clear 15)) ∧ ∃ t, step (running .clear (.clear 15)) = .next t :=
  ⟨storageWf_running _ _, step_running_eq _ rfl⟩

theorem witness_ReservedStatusBitsStayZero :
    (running .step (.step 0)).status &&& 0xFF00FEF8 = 0 ∧ ∃ t, step (running .step (.step 0)) = .next t :=
  ⟨by decide, step_running_eq _ rfl⟩

theorem witness_ParametersNeverChange : ∃ t, step (running .init (.pal 255)) = .next t :=
  step_running_eq _ rfl

theorem witness_AcceptedCommandLeavesBusy :
    Inv (running .render (.blit 11)) ∧ (running .render (.blit 11)).turns = [] := ⟨inv_running_render, rfl⟩

/-- A step that raises BUSY, one that completes, one that aborts, one that resets. -/
theorem witness_BusyChangesOnlyAsStated :
    (let s : State := { State.reset with turns := [.host (.cmd 2)] }
     ∃ t, step s = .next t ∧ s.busy = false ∧ t.busy = true) ∧
    (∃ t, step (running .nop .finish) = .next t ∧ (running .nop .finish).busy = true ∧ t.busy = false) ∧
    (∃ t, step (drawing 0 0x40000000 (.engine .error)) = .next t ∧
      (drawing 0 0x40000000 (.engine .error)).busy = true ∧ t.busy = false) ∧
    (∃ t, step { running .clear (.clear 1) with turns := [.reset none] } = .next t ∧
      (running .clear (.clear 1)).busy = true ∧ t.busy = false) :=
  ⟨⟨_, rfl, by decide, by decide⟩, ⟨_, rfl, by decide, by decide⟩, ⟨_, rfl, by decide, by decide⟩,
    ⟨_, rfl, by decide, by decide⟩⟩

theorem witness_ValidityBitsChangeOnlyAsStated :
    (∃ t, step { ready rvGrid with turns := [.reset none] } = .next t ∧
      (ready rvGrid).flag 1 = true ∧ t.flag 1 = false ∧ (ready rvGrid).flag 2 = true ∧ t.flag 2 = false) ∧
    (∃ t, step { running .init .finish with status := 1 } = .next t ∧
      t.flag 1 = true ∧ t.flag 2 = true) :=
  ⟨⟨_, rfl, by decide, by decide, by decide, by decide⟩, ⟨_, rfl, by decide, by decide⟩⟩

theorem builtEntry_eq_packedColor (s : State) (x : Byte) :
    s.builtEntry x = swap16 (packedColor s.params x.toNat) := rfl

theorem witness_BuiltPaletteStaysUntilReset :
    (∀ x : Byte, Memory.read (running .buildPal (.pal 7)).pal x.toNat =
      some (swap16 (packedColor (running .buildPal (.pal 7)).params x.toNat))) ∧
    (∃ t, step (running .buildPal (.pal 7)) = .next t) ∧ ¬ resetNext (running .buildPal (.pal 7)) :=
  ⟨read_builtPal, step_running_eq _ rfl, by rintro ⟨_, _, h⟩; exact nomatch h⟩

/-- A host write that changes the bottom row of an idle block. -/
theorem witness_FlameBedChangesOnlyAsStated :
    let s : State := { State.reset with turns := [.host (.mmio 0x3000C .w8 9)] }
    Inv s ∧ (∃ t, step s = .next t ∧ Memory.read t.grid 12 ≠ Memory.read s.grid 12) ∧ s.upperCells ≤ 12 := by
  refine ⟨?_, ⟨_, rfl, by decide⟩, by decide⟩
  exact ⟨inv_reset.params, inv_reset.storage, inv_reset.status, inv_reset.arrays, inv_reset.engine, inv_reset.cause⟩

theorem witness_LatchedOperandsAreFixedWhileBusy :
    (∃ t, step (running .step (.step 3)) = .next t) ∧ (running .step (.step 3)).busy = true ∧
    ¬ resetNext (running .step (.step 3)) :=
  ⟨step_running_eq _ rfl, by decide, by rintro ⟨_, _, h⟩; exact nomatch h⟩

/-- Cell (0, 2) of a 4 × 4 grid reads cells (3, 3), (0, 3), (1, 3) and (0, 0), and not cell (2, 3). -/
theorem witness_StepReadsOnlyItsFourSamples :
    let s := running .step (.step 8)
    let m := Memory.write rvGrid 14 200
    2 + 1 < s.params.gridH ∧ m ≠ s.snap ∧
    (∀ c, c = (0 + s.params.gridW - 1) % s.params.gridW ∨ c = 0 ∨ c = (0 + 1) % s.params.gridW →
      Memory.read m ((2 + 1) * s.params.gridW + c) = Memory.read s.snap ((2 + 1) * s.params.gridW + c)) ∧
    Memory.read m ((2 + 2) % s.params.gridH * s.params.gridW + 0) =
      Memory.read s.snap ((2 + 2) % s.params.gridH * s.params.gridW + 0) := by
  refine ⟨by decide, by decide, ?_, by decide⟩
  rintro c (rfl | rfl | rfl) <;> decide

theorem witness_AcknowledgeAndEnableActAtOnce :
    let s : State := { State.reset with status := 0x00800106 }
    s.status &&& 0x00FF0100 &&& ~~~(0x00800100 : Word) = 0 ∧
    (s.status.getLsbD 8 = true ∧ (1 : Word).getLsbD 0 = true) ∧
    (16 ≤ 23 ∧ 23 ≤ 23 ∧ s.status.getLsbD 23 = true ∧ (2 : Word).getLsbD 1 = true) := by decide

/-! ### The windows -/

/-- The last byte, halfword and word that touch a cell of a 4 × 4 grid, busy and idle, and the first
access beyond the grid. -/
theorem witness_grid_accesses :
    (running .init (.pal 0)).busy = true ∧ (ready rvGrid).busy = false ∧
    (gridAccess (15 : BitVec 16).toNat 1 .w8 ∧ (15 : BitVec 16).toNat < State.reset.cells) ∧
    (gridAccess (14 : BitVec 16).toNat 2 .w16 ∧ (14 : BitVec 16).toNat < State.reset.cells) ∧
    (gridAccess (12 : BitVec 16).toNat 4 .w32 ∧ (12 : BitVec 16).toNat < State.reset.cells) ∧
    (gridAccess (16 : BitVec 16).toNat 4 .w32 ∧ State.reset.cells ≤ (16 : BitVec 16).toNat) ∧
    (gridAccess (0xFFFF : BitVec 16).toNat 1 .w8 ∧ State.reset.cells ≤ (0xFFFF : BitVec 16).toNat) := by
  unfold gridAccess; decide

/-- The last byte of a 4 × 4 grid, and a word at the last cell of a 3 × 3 grid. -/
theorem witness_BusyWindowAccessRaisesAcc :
    ((running .init (.pal 0)).busy = true ∧ gridAccess (15 : BitVec 16).toNat 1 .w8 ∧
      (15 : BitVec 16).toNat < (running .init (.pal 0)).cells) ∧
    (let s : State := { State.initial { Params.example4x4 with gridW := 3, gridH := 3 } with status := 1 }
     s.busy = true ∧ gridAccess (8 : BitVec 16).toNat 4 .w32 ∧ (8 : BitVec 16).toNat < s.cells ∧
      s.cells ≤ (8 : BitVec 16).toNat + 1) := by
  unfold gridAccess; decide

/-- A 2 × 3 grid: a word at byte 4 has two cells and two reserved bytes. -/
theorem witness_GridWriteStoresLittleEndian :
    let s := State.initial { Params.example4x4 with gridW := 2, gridH := 3 }
    s.busy = false ∧ gridAccess (4 : BitVec 16).toNat 4 .w32 ∧
    (1 < 4 ∧ (4 : BitVec 16).toNat + 1 < s.cells) ∧ ¬ (4 : BitVec 16).toNat + 2 < s.cells ∧
    ∀ k, k < 4 → (4 : BitVec 16).toNat + k < s.cells → 3 ≠ (4 : BitVec 16).toNat + k := by
  unfold gridAccess; decide

theorem witness_GridReadReturnsTheCells :
    let s : State := { State.initial { Params.example4x4 with gridW := 2, gridH := 3 } with
      grid := [(4, 0x33), (5, 0x44)] }
    s.busy = false ∧ gridAccess (4 : BitVec 16).toNat 4 .w32 ∧
    (Memory.read s.grid 5 = some 0x44 ∧ 4 + 1 < s.cells) ∧ s.cells ≤ 4 + 2 ∧
    ∀ k, k < 4 → 4 + k < s.cells → (Memory.read s.grid (4 + k)).isSome := by
  unfold gridAccess; decide

theorem witness_BytesBeyondTheGridAreReserved :
    gridAccess (16 : BitVec 16).toNat 4 .w32 ∧ State.reset.cells ≤ (16 : BitVec 16).toNat :=
  witness_grid_accesses.2.2.2.2.2.1

theorem witness_PaletteReadReturnsTheEntry :
    (let s : State := { State.reset with status := 4, pal := [(255, 0xFFFF)] }
     s.busy = false ∧ s.palValid = true ∧ Memory.read s.pal (255 : Byte).toNat = some 0xFFFF) ∧
    (State.reset.busy = false ∧ State.reset.palValid = false) ∧ (running .init (.pal 0)).busy = true ∧
    Width.w8 ≠ .w32 ∧ (3 : BitVec 2) ≠ 0 ∧
    (let s : State := { State.reset with turns := [.host (.mmio (0b0_0000001#8 ++ 255#8 ++ 3#2) .w32 0)] }
     s.turns = .host (.mmio (0b0_0000001#8 ++ 255#8 ++ 3#2) .w32 0) :: []) := by decide

theorem witness_ConverterComponentsAreBytes :
    (-1 : Int) < (hslComponents 0 255 128).1 ∧ (255 : Int) = (hslComponents 0 255 128).1 := by decide

theorem witness_ConvShowsItsColourAtOnce :
    convertWith .reference (BitVec.ofNat 8 (0x0080FF2B : Word).toNat) (BitVec.ofNat 8 ((0x0080FF2B : Word).toNat / 0x100))
      (BitVec.ofNat 8 ((0x0080FF2B : Word).toNat / 0x10000)) = (253, 255, 1) := by decide

/-! ### Reset, other agents, host procedures -/

/-- A reset while a pixel write is in flight, and one with none. -/
theorem witness_ResetInputRestoresTheRegisters :
    (drawing 11 0x20000000 (.reset (some .ok))).params.converter = .reference ∧
    convertWith (drawing 11 0x20000000 (.reset (some .ok))).params.converter 0 0 0 = (0, 0, 0) ∧
    (drawing 11 0x20000000 (.reset (some .ok))).turns = .reset (some .ok) :: [] ∧
    (drawing 11 0x20000000 (.reset none)).turns = .reset none :: [] ∧
    Memory.read (landInFlight (some .ok) (drawing 11 0x20000000 (.reset (some .ok)))).mem 0x20000016 ≠
      Memory.read (drawing 11 0x20000000 (.reset (some .ok))).mem 0x20000016 := by decide

/-- A coherent platform, one whose caches are maintained, a pixel write that makes its byte stale, and one that
leaves a maintained byte elsewhere as it is. -/
theorem witness_CoherentAgentReadsWhatMemoryHolds :
    (let s : State := { State.reset with mem := [(0x3FFFFFFF, 5)], turns := [.agentRead 0x3FFFFFFF] }
     s.inWindow 0x3FFFFFFF = false ∧ upToDate s 0x3FFFFFFF ∧
      Memory.read s.mem (0x3FFFFFFF : Word).toNat = some 5 ∧ s.turns = .agentRead 0x3FFFFFFF :: []) ∧
    (let s : State := { State.reset with
      params := { Params.example4x4 with dmaCoherent := false }, maintained := true, mem := [(0x3FFFFFFF, 5)]
      stale := [0x3FFFFFFE], turns := [.agentRead 0x3FFFFFFF] }
     s.inWindow 0x3FFFFFFF = false ∧ upToDate s 0x3FFFFFFF ∧
      Memory.read s.mem (0x3FFFFFFF : Word).toNat = some 5 ∧ s.turns = .agentRead 0x3FFFFFFF :: []) ∧
    (let s : State := { State.reset with turns := [.agentWrite 0x3FFFFFFF 5, .agentRead 0x3FFFFFFF] }
     s.inWindow 0x3FFFFFFF = false ∧ upToDate s 0x3FFFFFFF ∧
      s.turns = .agentWrite 0x3FFFFFFF 5 :: .agentRead 0x3FFFFFFF :: []) ∧
    (let s : State := { State.reset with
      params := { Params.example4x4 with dmaCoherent := false }, stale := [0x3FFFFFFF], mem := [(0x3FFFFFFF, 5)]
      turns := [.maintain, .agentRead 0x3FFFFFFF] }
     s.inWindow 0x3FFFFFFF = false ∧
      Memory.read s.mem (0x3FFFFFFF : Word).toNat = some 5 ∧
      s.turns = .maintain :: .agentRead 0x3FFFFFFF :: []) ∧
    (∃ t, step maintainedDrawing = .next t ∧ upToDate maintainedDrawing 0x20000016 ∧ ¬ upToDate t 0x20000016) ∧
    (∃ t, step maintainedDrawing = .next t ∧ upToDate maintainedDrawing 0x20000018 ∧
      Memory.read maintainedDrawing.mem (0x20000018 : Word).toNat = some 5 ∧
      maintainedDrawing.turns = [.engine .ok] ∧ maintainedDrawing.pos = .blit 11 ∧
      (0x20000018 : Word) ≠ maintainedDrawing.pixelAddr 11 ∧
      (0x20000018 : Word) ≠ maintainedDrawing.pixelAddr 11 + 1) :=
  ⟨by decide, by decide, by decide, by decide, ⟨_, rfl, by decide, by decide⟩, ⟨_, rfl, by decide⟩⟩

theorem witness_MaintainedImageIsReadBack :
    readyFor .render (ready rvGrid) ∧ outsideWindow (ready rvGrid) ∧ lastAtItsAddress (ready rvGrid) 0 0 ∧
    (ready rvGrid).params.dmaCoherent = true :=
  ⟨(witness_readyFor .render).1, outsideWindow_ready _, witness_lastAtItsAddress.2.1, rfl⟩

theorem witness_FeedRefillsTheFlameBed :
    State.reset.params.Valid ∧ State.reset.busy = false ∧ legalMix State.reset.params [.w32] 0 = true ∧
    legalMix State.reset.params [.w8, .w8, .w16] 0 = true ∧
    (hpDraws 0 = 0x40 ∧ hpDraws 1 = 0x80 ∧ hpDraws 2 = 0xC8 ∧ hpDraws 3 = 0xFF) := by decide

theorem witness_PaletteEntryValues : 126 ≤ (126 : Byte).toNat ∧ ¬ 126 ≤ (125 : Byte).toNat := by decide

/-- A glyph that fits an 8 × 8 grid at its one place, and one that does not. -/
theorem witness_PutCharSetsTheOnBitsOrNothing :
    let p : Params := { Params.example4x4 with gridW := 8, gridH := 8 }
    ((-1 : Int) < 0 ∨ (0 : Int) < 0 ∨ (p.gridW : Int) - 8 < -1 ∨ (p.gridH : Int) - 8 < 0) ∧
    ((p.gridW : Int) - 8 < 1) ∧
    ((State.initial p).params = p ∧ p.Valid ∧ (State.initial p).busy = false ∧ (0 : Int) ≤ 0 ∧
      (0 : Int) ≤ (p.gridW : Int) - 8 ∧ (0 : Int) ≤ (p.gridH : Int) - 8) ∧
    (1 : Byte) ≠ 0 ∧ (7 : Nat) < 8 ∧ fontBit .lsbTop 0x81 7 = true ∧ fontBit .msbTop 0x81 0 = true ∧ fontBit .lsbTop 0x81 1 = false := by decide

end Sys2Proof.Tests
end

section
/-! PROOF. What a turn of each agent can do, said once, and that none of it touches the parameters of the
block (00_scope.md R8, 10_state.md R25). -/

namespace Sys2Proof.Machine

/-! ## What a host transaction can do -/

/-- Everything a host transaction does to the block before the slave port's answer is recorded: nothing, a
command word (refused as illegal, or issued), a register write, or an access to a window. -/
inductive HostEffect (s : State) : State → Prop
  | unchanged : HostEffect s s
  | illegalWord (op : BitVec 4) : HostEffect s (raise .cmdIllegal op s)
  | command (c : Command) : HostEffect s (issue c s)
  | writeStatus (v : Word) : HostEffect s { s with status := statusAfterWrite s.status v }
  | writeIrqEn (b : BitVec 2) : HostEffect s { s with irqEn := b }
  | writeParam (v : Word) : HostEffect s { s with param := v }
  | writeDstBase (v : Word) : HostEffect s { s with dstBase := v }
  | writeDstPitch (v : Word) : HostEffect s { s with dstPitch := v }
  | writeDstDepth (b : Byte) : HostEffect s { s with dstDepth := b }
  | writeConvHsl (v : BitVec 24) : HostEffect s { s with convHsl := v }
  | readPal (i : Byte) : HostEffect s (palAfterRead i s)
  | readGrid (n i : Nat) : HostEffect s (gridAfterRead n i s)
  | writeGrid (n i : Nat) (d : Word) : HostEffect s (gridWrite n i d s)

/-- The outcome `o` is one of those effects, with an answer of the slave port recorded. -/
def AnswersHost (s : State) (o : Host.Outcome State Fault Refusal) : Prop :=
  ∃ u r, HostEffect s u ∧ o = .next { u with reply := r }

theorem cmdWrite_effect (v : Word) (s : State) : HostEffect s (cmdWrite v s) := by
  unfold cmdWrite
  split
  · exact .illegalWord _
  · exact .command _

/-- An illegal access changes nothing but the answer (R55). -/
theorem answersHost_error (s : State) : AnswersHost s (.next { s with reply := .error }) :=
  ⟨s, .error, .unchanged, rfl⟩

theorem answerRead_answersHost {after : State → State} (legal : Bool) (value : State → Word) (s : State)
    (h : HostEffect s (after s)) : AnswersHost s (answerRead legal value after s) := by
  unfold answerRead
  split
  · exact ⟨after s, _, h, rfl⟩
  · exact answersHost_error s

theorem answerWrite_answersHost {after : State → State} (legal : Bool) (s : State)
    (h : HostEffect s (after s)) : AnswersHost s (answerWrite legal after s) := by
  unfold answerWrite
  split
  · exact ⟨after s, _, h, rfl⟩
  · exact answersHost_error s

theorem answerCommand_answersHost (c : Command) (s : State) : AnswersHost s (answerCommand c s) :=
  ⟨issue c s, .done, .command c, rfl⟩

theorem accessReserved_answersHost (off : Nat) (w : Width) (a : RsvAccess) (s : State) :
    AnswersHost s (accessReserved off w a s) := by
  cases a with
  | read => apply answerRead_answersHost; exact .unchanged
  | write v => apply answerWrite_answersHost; exact .unchanged

/-- A plain register read has no effect (R59). -/
theorem readRegister_answersHost (w : Width) (value : State → Word) (s : State) :
    AnswersHost s (readRegister w value s) := answerRead_answersHost _ _ s .unchanged

/-- A write to a read-only word is ignored (R145). -/
theorem ignoredWrite_answersHost (w : Width) (s : State) : AnswersHost s (writeRegister w id s) :=
  answerWrite_answersHost _ s .unchanged

/-- What each of the 50 rows can do. -/
theorem exec_answersHost (i : Instr) (s : State) : AnswersHost s (exec i s) := by
  unfold exec
  cases i with
  | nop | init | clear | buildPal | step | render | effect => exact answerCommand_answersHost _ s
  | rdId w | rdGeom w | rdCmd w | rdStatus w | rdIrqEn w | rdParam w | rdDstBase w | rdDstPitch w
  | rdDstDepth w | rdLastErr w | rdFaultAddr w | rdConvHsl w | rdConvRgb w | rdConvPix w =>
    exact readRegister_answersHost w _ s
  | wrId w | wrGeom w | wrLastErr w | wrFaultAddr w | wrConvRgb w | wrConvPix w | wrPal _ w =>
    exact ignoredWrite_answersHost w s
  | wrCmd w v => apply answerWrite_answersHost; exact cmdWrite_effect v s
  | wrStatus w v => apply answerWrite_answersHost; exact .writeStatus v
  | wrIrqEn w v => apply answerWrite_answersHost; exact .writeIrqEn (v.extractLsb' 0 2)
  | wrParam w v => apply answerWrite_answersHost; exact .writeParam v
  | wrDstBase w v => apply answerWrite_answersHost; exact .writeDstBase v
  | wrDstPitch w v => apply answerWrite_answersHost; exact .writeDstPitch v
  | wrDstDepth w v => apply answerWrite_answersHost; exact .writeDstDepth (v.extractLsb' 0 8)
  | conv w v => apply answerWrite_answersHost; exact .writeConvHsl (v.extractLsb' 0 24)
  | rdPal index w => apply answerRead_answersHost; exact .readPal index
  | rdGrid off w => apply answerRead_answersHost; exact .readGrid (widthBytes w) off.toNat
  | wrGrid off w v => apply answerWrite_answersHost; exact .writeGrid (widthBytes w) off.toNat v
  | rsv0002C w a | rsv0003C w a | rsv00040 _ w a | rsv00080 _ w a | rsv00100 _ w a
  | rsv00200 _ w a | rsv00800 _ w a | rsv01000 _ w a | rsv02000 _ w a | rsv04000 _ w a
  | rsv08000 _ w a => exact accessReserved_answersHost _ w a s

/-- What a host transaction can do, an instruction or not (R55, R75). -/
theorem hostTurn_answersHost (txn : Txn) (s : State) : AnswersHost s (hostTurn txn s) := by
  unfold hostTurn
  split
  · exact exec_answersHost _ s
  · exact ⟨_, .done, .illegalWord _, rfl⟩
  · exact answersHost_error s

/-! ## What each update leaves of the parameters -/

@[simp] theorem raiseAll_params (fails : List ErrorCause) (op : BitVec 4) (s : State) :
    (raiseAll fails op s).params = s.params := by rw [raiseAll_frame]

@[simp] theorem accept_params (c : Command) (s : State) : (accept c s).params = s.params := by
  rw [accept_eq]

@[simp] theorem issue_params (c : Command) (s : State) : (issue c s).params = s.params := by
  obtain ⟨-, h⟩ | ⟨-, -, h⟩ | ⟨-, -, h⟩ := issue_cases c s <;> simp [h]

@[simp] theorem complete_params (s : State) : (complete s).params = s.params := by rw [complete_frame]

@[simp] theorem gridWrite_params (n i : Nat) (d : Word) (s : State) :
    (gridWrite n i d s).params = s.params := by
  obtain ⟨-, -, h⟩ | ⟨-, -, h⟩ | ⟨-, h⟩ := gridWrite_cases n i d s <;> simp [h, storeCells_params]

@[simp] theorem palAfterRead_params (i : Byte) (s : State) : (palAfterRead i s).params = s.params := by
  unfold palAfterRead
  split_ifs <;> rfl

@[simp] theorem gridAfterRead_params (n i : Nat) (s : State) : (gridAfterRead n i s).params = s.params := by
  unfold gridAfterRead
  split_ifs <;> rfl

@[simp] theorem memWrite_params (a : Word) (v : Half) (r : PortResponse) (s : State) :
    (memWrite a v r s).1.params = s.params := by
  obtain ⟨-, -, h⟩ | ⟨-, -, h⟩ | ⟨-, h | h | ⟨_, h⟩⟩ := memWrite_cases a v r s <;> simp [h]

theorem HostEffect.params_eq {s u : State} (h : HostEffect s u) : u.params = s.params := by
  cases h with
  | command c => exact issue_params c s
  | readPal i => exact palAfterRead_params i s
  | readGrid n i => exact gridAfterRead_params n i s
  | writeGrid n i d => exact gridWrite_params n i d s
  | _ => rfl

/-! ## What each turn leaves of the parameters -/

@[simp] theorem palTurn_params (i : Nat) (s : State) : (palTurn i s).params = s.params := by
  unfold palTurn
  split_ifs <;> rfl

@[simp] theorem clearTurn_params (i : Nat) (s : State) : (clearTurn i s).params = s.params := by
  unfold clearTurn
  split_ifs <;> rfl

@[simp] theorem stepTurn_params (i : Nat) (s : State) : (stepTurn i s).params = s.params := by
  unfold stepTurn
  split_ifs <;> rfl

@[simp] theorem blitTurn_params (r : PortResponse) (i : Nat) (s : State) :
    (blitTurn r i s).params = s.params := by
  unfold blitTurn
  simp only
  split_ifs
  · exact memWrite_params _ _ r s
  · exact memWrite_params _ _ r s
  · rfl

@[simp] theorem engineTurn_params (r : PortResponse) (s : State) : (engineTurn r s).params = s.params := by
  unfold engineTurn
  cases s.pos with
  | idle => rfl
  | pal i => exact palTurn_params i s
  | clear i => exact clearTurn_params i s
  | step i => exact stepTurn_params i s
  | blit i => exact blitTurn_params r i s
  | finish => exact complete_params s

@[simp] theorem autonomousTurn_params (s : State) : (autonomousTurn s).params = s.params := by
  unfold autonomousTurn
  split <;> simp

theorem hostTurn_params {txn : Txn} {s t : State} (h : hostTurn txn s = .next t) : t.params = s.params := by
  obtain ⟨u, r, hu, hs⟩ := hostTurn_answersHost txn s
  cases hs.symm.trans h
  exact hu.params_eq

@[simp] theorem agentWriteTurn_params (a : Word) (v : Byte) (s : State) :
    (agentWriteTurn a v s).params = s.params := by
  unfold agentWriteTurn
  split_ifs <;> rfl

@[simp] theorem agentReadTurn_params (a : Word) (s : State) : (agentReadTurn a s).params = s.params := by
  unfold agentReadTurn
  split_ifs <;> rfl

theorem takeTurn_params {n : Turn} {s t : State} (h : takeTurn n s = .next t) : t.params = s.params := by
  cases n with
  | host txn => exact hostTurn_params h
  | engine r => cases h; exact engineTurn_params r s
  | reset f => cases h; rfl
  | agentWrite a v => cases h; exact agentWriteTurn_params a v s
  | agentRead a => cases h; exact agentReadTurn_params a s
  | maintain => cases h; exact maintainTurn_params s

theorem step_params {s t : State} (h : step s = .next t) : t.params = s.params := by
  cases hn : s.turns with
  | nil =>
    cases (step_nil hn).symm.trans h
    exact autonomousTurn_params s
  | cons n rest => exact takeTurn_params (s := { s with turns := rest }) ((step_cons hn).symm.trans h)

/-- GEOM is a function of the parameters alone (R25). -/
theorem geom_congr {s t : State} (h : t.params = s.params) : t.geom = s.geom := by
  simp only [State.geom, h]

/-- Settles O35: every turn keeps `params`, the reset input by definition and a host transaction through the
list of its effects. -/
theorem parametersNeverChange : Obligations.ParametersNeverChange :=
  fun _ _ h => ⟨step_params h, geom_congr (step_params h)⟩

end Sys2Proof.Machine
end

section
/-! PROOF. A pixel turn whose address lies in the block's own window: what the slave port answers there and
what the engine makes of the answer (00_scope.md R14, 10_state.md R39, 20_memory.md R55, 60_exceptions.md
R166; log 17). -/

namespace Sys2Proof.Machine

/-! ## A pixel turn -/

theorem step_engine {s : State} {r : PortResponse} {rest : List Turn} (h : s.turns = .engine r :: rest) :
    step s = .next (engineTurn r { s with turns := rest }) := step_cons h

theorem engineTurn_blit {s : State} {i : Nat} (r : PortResponse) (h : s.pos = .blit i) :
    engineTurn r s = blitTurn r i s := by
  simp only [engineTurn, h]

/-- A pixel write that is answered OK moves the engine on to the next pixel (R130). -/
theorem blitTurn_of_ok {r : PortResponse} {i : Nat} {s u : State} (hi : i < s.upperCells)
    (h : memWrite (s.pixelAddr i) (s.pixelValue i) r s = (u, true)) :
    blitTurn r i s = { u with pos := .blit (i + 1) } := by
  simp [blitTurn, hi, h]

/-- A pixel write that is answered ERROR raises E_BUS and ends the command (R135). -/
theorem blitTurn_of_error {r : PortResponse} {i : Nat} {s u : State} (hi : i < s.upperCells)
    (h : memWrite (s.pixelAddr i) (s.pixelValue i) r s = (u, false)) :
    blitTurn r i s = abort (raiseBus s.lat.op.opcode (s.pixelAddr i) u) := by
  simp [blitTurn, hi, h]

/-- The abort of R135, field by field: E_BUS is STATUS bit 21, BUSY is bit 0. -/
theorem abort_raiseBus_eq (op : BitVec 4) (a : Word) (s : State) :
    abort (raiseBus op a s) =
      { s with status := (s.status ||| 0x00200000) &&& 0xFFFFFFFE, lastErrOp := op, lastErrCause := 7,
               faultAddr := a, pos := .idle } := rfl

/-- E_ACC at a window offset, field by field (R163): STATUS bit 22, OP 0, cause 8. -/
theorem raiseAcc_eq (off : Nat) (h : off < 0x20000) (s : State) :
    raiseAcc (BitVec.ofNat 17 off) s =
      { s with status := s.status ||| 0x00400000, lastErrOp := 0, lastErrCause := 8,
               faultAddr := BitVec.ofNat 32 off } := by
  have hoff : (BitVec.ofNat 17 off).setWidth 32 = BitVec.ofNat 32 off := by bv_omega
  rw [← hoff]
  rfl

/-! ## The slave port's answers to the block's own pixel writes -/

section OwnWindow

variable {s : State} {a : Word} {off : Nat} (v : Half)

theorem inWindow_of_offset (ha : a.toNat = s.params.fireBase.toNat + off) (hoff : off < 0x20000) :
    s.inWindow a = true := by
  simp [State.inWindow, ha, hoff]

theorem memWrite_ok_of_offset (ha : a.toNat = s.params.fireBase.toNat + off) (hoff : off < 0x20000) :
    memWrite a v .ok s = ownWindowWrite off v s := by
  simp [memWrite, inWindow_of_offset ha hoff, ha]

theorem memWrite_error_of_offset (ha : a.toNat = s.params.fireBase.toNat + off) (hoff : off < 0x20000) :
    memWrite a v .error s = (s, false) := by
  simp [memWrite, inWindow_of_offset ha hoff]

/-- Registers and palette take no 16-bit access (R55). -/
theorem ownWindowWrite_register (h : off < 0x800) : ownWindowWrite off v s = (s, false) := by
  simp [ownWindowWrite, h]

/-- Reserved space ignores the write (R39). -/
theorem ownWindowWrite_reserved (hl : 0x800 ≤ off) (hu : off < 0x10000) :
    ownWindowWrite off v s = (s, true) := by
  rw [ownWindowWrite, if_neg (by omega), if_pos hu]

theorem ownWindowWrite_grid (h : 0x10000 ≤ off) :
    ownWindowWrite off v s = (gridWrite 2 (off - 0x10000) (v.setWidth 32) s, true) := by
  rw [ownWindowWrite, if_neg (by omega), if_neg (by omega)]

/-- While busy, a grid write beyond the cells is ignored (R51; log 10). -/
theorem gridWrite_busy_beyond {n i : Nat} (d : Word) (hb : s.busy = true) (hi : s.cells ≤ i) :
    gridWrite n i d s = s := by
  rw [gridWrite, if_pos hb, if_neg (by omega)]

/-- While busy, a grid write that touches a cell is dropped with E_ACC (R146, R166). -/
theorem gridWrite_busy_cell {n i : Nat} (d : Word) (hb : s.busy = true) (hi : i < s.cells) :
    gridWrite n i d s = raiseAcc (BitVec.ofNat 17 (0x10000 + i)) s := by
  rw [gridWrite, if_pos hb, if_pos hi]

end OwnWindow

/-! ## What the engine makes of them -/

section PixelTurn

variable {s : State} {i off : Nat}

theorem step_blit {r : PortResponse} {rest : List Turn} (ht : s.turns = .engine r :: rest)
    (hp : s.pos = .blit i) : step s = .next (blitTurn r i { s with turns := rest }) := by
  rw [step_engine ht, engineTurn_blit (s := { s with turns := rest }) r hp]

theorem blitTurn_window_error (hi : i < s.upperCells)
    (ha : (s.pixelAddr i).toNat = s.params.fireBase.toNat + off) (hoff : off < 0x20000) :
    blitTurn .error i s =
      { s with status := (s.status ||| 0x00200000) &&& 0xFFFFFFFE, lastErrOp := s.lat.op.opcode,
               lastErrCause := 7, faultAddr := s.pixelAddr i, pos := .idle } := by
  rw [blitTurn_of_error hi (memWrite_error_of_offset _ ha hoff), abort_raiseBus_eq]

theorem blitTurn_window_register (hi : i < s.upperCells)
    (ha : (s.pixelAddr i).toNat = s.params.fireBase.toNat + off) (h : off < 0x800) :
    blitTurn .ok i s =
      { s with status := (s.status ||| 0x00200000) &&& 0xFFFFFFFE, lastErrOp := s.lat.op.opcode,
               lastErrCause := 7, faultAddr := s.pixelAddr i, pos := .idle } := by
  have hw := memWrite_ok_of_offset (s.pixelValue i) ha (by omega)
  rw [ownWindowWrite_register _ h] at hw
  rw [blitTurn_of_error hi hw, abort_raiseBus_eq]

theorem blitTurn_window_reserved (hi : i < s.upperCells)
    (ha : (s.pixelAddr i).toNat = s.params.fireBase.toNat + off) (hl : 0x800 ≤ off) (hu : off < 0x10000) :
    blitTurn .ok i s = { s with pos := .blit (i + 1) } := by
  have hw := memWrite_ok_of_offset (s.pixelValue i) ha (by omega)
  rw [ownWindowWrite_reserved _ hl hu] at hw
  exact blitTurn_of_ok hi hw

/-- In the grid window the engine goes on, with what the grid write did. -/
theorem blitTurn_window_grid (hi : i < s.upperCells)
    (ha : (s.pixelAddr i).toNat = s.params.fireBase.toNat + off) (hl : 0x10000 ≤ off) (hu : off < 0x20000) :
    blitTurn .ok i s =
      { gridWrite 2 (off - 0x10000) ((s.pixelValue i).setWidth 32) s with pos := .blit (i + 1) } := by
  have hw := memWrite_ok_of_offset (s.pixelValue i) ha hu
  rw [ownWindowWrite_grid _ hl] at hw
  exact blitTurn_of_ok hi hw

theorem blitTurn_window_beyond (hi : i < s.upperCells) (hb : s.busy = true)
    (ha : (s.pixelAddr i).toNat = s.params.fireBase.toNat + off) (hl : 0x10000 ≤ off) (hu : off < 0x20000)
    (hc : s.cells ≤ off - 0x10000) : blitTurn .ok i s = { s with pos := .blit (i + 1) } := by
  rw [blitTurn_window_grid hi ha hl hu, gridWrite_busy_beyond _ hb hc]

theorem blitTurn_window_cell (hi : i < s.upperCells) (hb : s.busy = true)
    (ha : (s.pixelAddr i).toNat = s.params.fireBase.toNat + off) (hl : 0x10000 ≤ off) (hu : off < 0x20000)
    (hc : off - 0x10000 < s.cells) :
    blitTurn .ok i s =
      { s with status := s.status ||| 0x00400000, lastErrOp := 0, lastErrCause := 8,
               faultAddr := BitVec.ofNat 32 off, pos := .blit (i + 1) } := by
  have hoff : 0x10000 + (off - 0x10000) = off := by omega
  rw [blitTurn_window_grid hi ha hl hu, gridWrite_busy_cell _ hb hc, hoff, raiseAcc_eq off hu]

end PixelTurn

/-- Settles O29: the regions of the window are the cases of `ownWindowWrite`, and BUSY decides the grid
window's. -/
theorem ownWindowPixelGoesToTheSlavePort : Obligations.OwnWindowPixelGoesToTheSlavePort := by
  refine ⟨fun s rest i off ht hp hb hi ha => ?_, fun s rest i off ht hp hi ha hoff => ?_⟩
  · rw [step_blit ht hp]
    refine ⟨fun h => ?register, fun hl hu => ?reserved, fun hl hu hc => ?beyond, fun hl hu hc => ?cell⟩
    case register => exact congrArg _ (blitTurn_window_register (s := { s with turns := rest }) hi ha h)
    case reserved => exact congrArg _ (blitTurn_window_reserved (s := { s with turns := rest }) hi ha hl hu)
    case beyond =>
      exact congrArg _ (blitTurn_window_beyond (s := { s with turns := rest }) hi hb ha hl hu hc)
    case cell => exact congrArg _ (blitTurn_window_cell (s := { s with turns := rest }) hi hb ha hl hu hc)
  · rw [step_blit ht hp]
    exact congrArg _ (blitTurn_window_error (s := { s with turns := rest }) hi ha hoff)

end Sys2Proof.Machine
end

section
/-! PROOF. What one step can do, sorted by what it reaches: an update beside the engine, the acceptance of a
command, a turn of the engine, or the reset input (10_state.md R43, R47; 20_memory.md R58, R62). -/

namespace Sys2Proof.Machine

open Sys2Proof.Claims

/-! ## The reserved bits of STATUS -/

/-- The reserved bits read 0 exactly when every bit that is set is one R27 defines. -/
theorem statusWf_iff (s : State) :
    StatusWf s ↔ ∀ b, b < 32 → s.flag b = true → b ≤ 2 ∨ b = 8 ∨ (16 ≤ b ∧ b ≤ 23) := by
  have hbit (b : Nat) (hb : b < 32) : (s.status &&& ~~~statusDefined).getLsbD b =
      (s.flag b && !(decide (b ≤ 2) || decide (b = 8) || (decide (16 ≤ b) && decide (b ≤ 23)))) := by
    simp only [BitVec.getLsbD_and, BitVec.getLsbD_not, hb, statusDefined_bit b hb, State.flag,
      decide_true, Bool.true_and]
  constructor
  · intro h b hb hs
    have hz := hbit b hb
    rw [h, hs] at hz
    simp at hz
    omega
  · intro h
    refine BitVec.eq_of_getLsbD_eq fun b hb => ?_
    rw [hbit b hb]
    cases hs : s.flag b with
    | false => simp
    | true =>
      have hdef := h b hb hs
      simp
      omega

/-- The mask of the reserved bits (R27). -/
theorem statusWf_iff_mask (s : State) : StatusWf s ↔ s.status &&& 0xFF00FEF8 = 0 := Iff.rfl

/-! ## Updates that leave the engine alone -/

/-- `u` comes from `s` by an update that the engine's position, the latches, the snapshot, the palette and the
three state bits of STATUS do not see, that keeps what the invariant says of the arrays and of the error
record, and that leaves the grid alone while a command runs. -/
structure KeepsEngine (s u : State) : Prop where
  params : u.params = s.params
  pal : u.pal = s.pal
  lat : u.lat = s.lat
  snap : u.snap = s.snap
  pos : u.pos = s.pos
  flags : ∀ b, b ≤ 2 → u.flag b = s.flag b
  reserved : StatusWf s → StatusWf u
  cause : s.lastErrCause.toNat ≤ 9 → u.lastErrCause.toNat ≤ 9
  storage : StorageWf s → StorageWf u
  known : CellsKnown s.cells s.grid → CellsKnown u.cells u.grid
  grid : s.busy = true → u.grid = s.grid

theorem KeepsEngine.busy {s u : State} (h : KeepsEngine s u) : u.busy = s.busy := h.flags 0 (by decide)

theorem KeepsEngine.trans {s u v : State} (h : KeepsEngine s u) (k : KeepsEngine u v) : KeepsEngine s v where
  params := k.params.trans h.params
  pal := k.pal.trans h.pal
  lat := k.lat.trans h.lat
  snap := k.snap.trans h.snap
  pos := k.pos.trans h.pos
  flags b hb := (k.flags b hb).trans (h.flags b hb)
  reserved hs := k.reserved (h.reserved hs)
  cause hs := k.cause (h.cause hs)
  storage hs := k.storage (h.storage hs)
  known hs := k.known (h.known hs)
  grid hs := (k.grid (h.busy.trans hs)).trans (h.grid hs)

/-- `u` is `s` but for fields the engine's rules do not speak of: the operand registers, LAST_ERR.OP and
FAULT_ADDR, `ovf`, and the model's own fields. -/
def OutsideOnly (s u : State) : Prop :=
  u = { s with irqEn := u.irqEn, param := u.param, dstBase := u.dstBase, dstPitch := u.dstPitch,
               dstDepth := u.dstDepth, lastErrOp := u.lastErrOp, faultAddr := u.faultAddr,
               convHsl := u.convHsl, ovfSeen := u.ovfSeen, maintained := u.maintained,
               turns := u.turns, reply := u.reply, agentData := u.agentData, draws := u.draws }

theorem keepsEngine_of_eq {s u : State} (h : OutsideOnly s u) : KeepsEngine s u := by
  rw [h]
  exact ⟨rfl, rfl, rfl, rfl, rfl, fun _ _ => rfl, id, id, id, id, fun _ => rfl⟩

theorem KeepsEngine.refl (s : State) : KeepsEngine s s := keepsEngine_of_eq rfl

/-- An update of STATUS that only sets or clears bits other than the three state bits. -/
theorem keepsEngine_status {s : State} {st : Word}
    (hl : ∀ b, b ≤ 2 → st.getLsbD b = s.flag b)
    (hd : ∀ b, b < 32 → st.getLsbD b = true → s.flag b = true ∨ b ≤ 2 ∨ b = 8 ∨ (16 ≤ b ∧ b ≤ 23)) :
    KeepsEngine s { s with status := st } where
  params := rfl
  pal := rfl
  lat := rfl
  snap := rfl
  pos := rfl
  flags := hl
  reserved h := (statusWf_iff _).2 fun b hb hst => (hd b hb hst).elim ((statusWf_iff s).1 h b hb) id
  cause := id
  storage := id
  known := id
  grid _ := rfl

/-- Recording a defined cause (R160). -/
theorem keepsEngine_cause (s : State) {c : BitVec 4} (hc : c.toNat ≤ 9) :
    KeepsEngine s { s with lastErrCause := c } :=
  ⟨rfl, rfl, rfl, rfl, rfl, fun _ _ => rfl, id, fun _ => hc, id, id, fun _ => rfl⟩

/-- An update of system memory and of the stale bytes that keeps their canonical form. -/
theorem keepsEngine_memory {s : State} {m : List Host.Cell} {l : List Nat}
    (hm : Memory.wf systemSpace s.mem → Memory.wf systemSpace m)
    (hl : AddressesWf systemSpace s.stale → AddressesWf systemSpace l) :
    KeepsEngine s { s with mem := m, stale := l } where
  params := rfl
  pal := rfl
  lat := rfl
  snap := rfl
  pos := rfl
  flags _ _ := rfl
  reserved := id
  cause := id
  storage := fun ⟨hmem, hgrid, hpal, hsnap, hstale⟩ => ⟨hm hmem, hgrid, hpal, hsnap, hl hstale⟩
  known := id
  grid _ := rfl

/-! ### Errors -/

theorem errorCause_code_le (e : ErrorCause) : e.code.toNat ≤ 9 := by cases e <;> decide

theorem smallestCode_le (e : ErrorCause) (fails : List ErrorCause) : (smallestCode e fails).toNat ≤ 9 := by
  induction fails generalizing e with
  | nil => exact errorCause_code_le e
  | cons f rest ih =>
    rw [smallestCode]
    split
    · exact ih f
    · exact ih e

theorem keepsEngine_setErrorBits (fails : List ErrorCause) (s : State) :
    KeepsEngine s (setErrorBits fails s) := by
  rw [setErrorBits_frame]
  refine keepsEngine_status (fun b hb => ?_) (fun b hb h => ?_)
  · refine (flag_setErrorBits fails s b (by omega)).trans ?_
    have hlow : (fails.any fun e => decide (b = e.bit)) = false := by
      simp only [List.any_eq_false, decide_eq_true_eq]
      intro e _
      have := errorCause_bit_ge e
      omega
    rw [hlow, Bool.or_false]
  · have h := (flag_setErrorBits fails s b hb).symm.trans h
    simp only [Bool.or_eq_true, List.any_eq_true, decide_eq_true_eq] at h
    obtain h | ⟨e, -, rfl⟩ := h
    · exact .inl h
    · exact .inr (.inr (.inr (errorCause_bit_ge e)))

theorem keepsEngine_raise (e : ErrorCause) (op : BitVec 4) (s : State) : KeepsEngine s (raise e op s) :=
  (keepsEngine_setErrorBits [e] s).trans
    ((keepsEngine_cause _ (errorCause_code_le e)).trans (keepsEngine_of_eq rfl))

theorem keepsEngine_raiseAll (fails : List ErrorCause) (op : BitVec 4) (s : State) :
    KeepsEngine s (raiseAll fails op s) := by
  cases fails with
  | nil => exact .refl s
  | cons e rest =>
    exact (keepsEngine_setErrorBits (e :: rest) s).trans
      ((keepsEngine_cause _ (smallestCode_le e rest)).trans (keepsEngine_of_eq rfl))

theorem keepsEngine_raiseBus (op : BitVec 4) (a : Word) (s : State) : KeepsEngine s (raiseBus op a s) :=
  (keepsEngine_raise .bus op s).trans (keepsEngine_of_eq rfl)

theorem keepsEngine_raiseAcc (off : BitVec 17) (s : State) : KeepsEngine s (raiseAcc off s) :=
  (keepsEngine_raise .acc 0 s).trans (keepsEngine_of_eq rfl)

/-! ### The windows and the master port -/

/-- A known cell stays known when cells are stored. -/
theorem cellsKnown_storeCells (n k i : Nat) (d : Word) (s : State) (h : CellsKnown s.cells s.grid) :
    CellsKnown s.cells (storeCells n k i d s).grid := by
  intro j hj
  rw [read_storeCells]
  split
  · rfl
  · exact h j hj

/-- Cells are stored on an idle block only, so no command sees it. -/
theorem keepsEngine_storeCells (n k i : Nat) (d : Word) {s : State} (hb : s.busy = false) :
    KeepsEngine s (storeCells n k i d s) := by
  have hwf := wf_storeCells n k i d s
  have hknown := cellsKnown_storeCells n k i d s
  rw [storeCells_frame]
  exact ⟨rfl, rfl, rfl, rfl, rfl, fun _ _ => rfl, id, id,
    fun ⟨hmem, hgrid, hpal, hsnap, hstale⟩ => ⟨hmem, hwf hgrid, hpal, hsnap, hstale⟩, hknown,
    fun h => absurd (hb.symm.trans h) (by decide)⟩

theorem keepsEngine_gridWrite (n i : Nat) (d : Word) (s : State) : KeepsEngine s (gridWrite n i d s) := by
  obtain ⟨-, -, h⟩ | ⟨-, -, h⟩ | ⟨hb, h⟩ := gridWrite_cases n i d s <;> rw [h]
  · exact keepsEngine_raiseAcc _ s
  · exact .refl s
  · exact keepsEngine_storeCells n 0 i d hb

theorem keepsEngine_memWrite (a : Word) (v : Half) (r : PortResponse) (s : State) :
    KeepsEngine s (memWrite a v r s).1 := by
  obtain ⟨-, -, h⟩ | ⟨-, -, h⟩ | ⟨-, h | h | ⟨i, h⟩⟩ := memWrite_cases a v r s <;> rw [h]
  · exact keepsEngine_memory (wf_storePixel · a v) (wf_markPixel · a)
  · exact keepsEngine_memory (wf_forgetPixel · a) (wf_markPixel · a)
  · exact .refl s
  · exact .refl s
  · exact keepsEngine_gridWrite 2 i _ s

/-! ## Host transactions -/

/-- A register write, a read or an error record: the engine and the grid are left alone. -/
structure Aside (s u : State) : Prop extends KeepsEngine s u where
  same_grid : u.grid = s.grid

theorem aside_of_eq {s u : State} (h : OutsideOnly s u) : Aside s u :=
  ⟨keepsEngine_of_eq h, by rw [h]⟩

theorem Aside.refl (s : State) : Aside s s := aside_of_eq rfl

theorem Aside.trans {s u v : State} (h : Aside s u) (k : Aside u v) : Aside s v :=
  ⟨h.toKeepsEngine.trans k.toKeepsEngine, k.same_grid.trans h.same_grid⟩

theorem aside_raise (e : ErrorCause) (op : BitVec 4) (s : State) : Aside s (raise e op s) :=
  ⟨keepsEngine_raise e op s, rfl⟩

theorem aside_raiseAcc (off : BitVec 17) (s : State) : Aside s (raiseAcc off s) :=
  ⟨keepsEngine_raiseAcc off s, rfl⟩

/-- A STATUS write touches none of the state bits and sets no bit (R28). -/
theorem aside_statusWrite (v : Word) (s : State) :
    Aside s { s with status := statusAfterWrite s.status v } := by
  refine ⟨keepsEngine_status (fun b hb => ?_) (fun b hb h => .inl ?_), rfl⟩
  · have hw : (decide (b = 8) || (decide (16 ≤ b) && decide (b ≤ 23))) = false := by
      simp only [Bool.or_eq_false_iff, Bool.and_eq_false_iff, decide_eq_false_iff_not]
      omega
    rw [statusAfterWrite_bit _ _ _ (by omega), hw, Bool.and_false, Bool.not_false, Bool.and_true]
    rfl
  · rw [statusAfterWrite_bit _ _ _ hb, Bool.and_eq_true] at h
    exact h.1

theorem aside_palAfterRead (i : Byte) (s : State) : Aside s (palAfterRead i s) := by
  unfold palAfterRead
  split_ifs
  · exact (aside_of_eq (u := s.advanceDraws 1) rfl).trans (aside_raiseAcc _ _)
  · exact aside_of_eq rfl
  · exact aside_of_eq rfl

theorem aside_gridAfterRead (n i : Nat) (s : State) : Aside s (gridAfterRead n i s) := by
  unfold gridAfterRead
  split_ifs
  · exact (aside_of_eq (u := s.advanceDraws 1) rfl).trans (aside_raiseAcc _ _)
  · exact aside_of_eq rfl
  · exact aside_of_eq rfl

/-- The instructions that issue a command: its own row, and the CMD write of its word (R70). -/
def Issues (i : Instr) (c : Command) : Prop := i = c.instr ∨ i = .wrCmd .w32 (c.opcode.setWidth 32)

/-- What a host transaction decoded as `i` can do (R140, R145, R146). Where `HostEffect` lists the updates, this
keeps the instruction with the two that the engine or the grid see, as R44 and R47 ask which transaction it was. -/
inductive HostCase (i : Instr) (s : State) : State → Prop
  | aside {u : State} (h : Aside s u) : HostCase i s u
  | stored (off : BitVec 16) (w : Width) (v : Word) (hi : i = .wrGrid off w v) (hb : s.busy = false)
      (n k : Nat) (r : Reply) : HostCase i s { storeCells n 0 k v s with reply := r }
  | accepted (c : Command) (hi : Issues i c) (hb : s.busy = false) (ha : acceptFails c s = [])
      (r : Reply) : HostCase i s { accept c s with reply := r }

/-- The outcome `o` is one of these cases. -/
def HostSorted (i : Instr) (s : State) (o : Host.Outcome State Fault Refusal) : Prop :=
  ∃ t, HostCase i s t ∧ o = .next t

theorem hostSorted_error (i : Instr) (s : State) : HostSorted i s (.next { s with reply := .error }) :=
  ⟨{ s with reply := .error }, .aside (aside_of_eq rfl), rfl⟩

theorem answerRead_sorted {i : Instr} {after : State → State} (legal : Bool) (value : State → Word)
    (s : State) (h : Aside s (after s)) : HostSorted i s (answerRead legal value after s) := by
  unfold answerRead
  split
  · refine ⟨_, ?_, rfl⟩
    exact .aside (h.trans (aside_of_eq rfl))
  · exact hostSorted_error i s

theorem answerWrite_sorted {i : Instr} {after : State → State} (legal : Bool) (s : State)
    (h : Aside s (after s)) : HostSorted i s (answerWrite legal after s) := by
  unfold answerWrite
  split
  · refine ⟨_, ?_, rfl⟩
    exact .aside (h.trans (aside_of_eq rfl))
  · exact hostSorted_error i s

theorem readRegister_sorted {i : Instr} (w : Width) (value : State → Word) (s : State) :
    HostSorted i s (readRegister w value s) := answerRead_sorted _ _ s (.refl s)

theorem writeRegister_sorted {i : Instr} {after : State → State} (w : Width) (s : State)
    (h : Aside s (after s)) : HostSorted i s (writeRegister w after s) := answerWrite_sorted _ s h

theorem accessReserved_sorted {i : Instr} (off : Nat) (w : Width) (a : RsvAccess) (s : State) :
    HostSorted i s (accessReserved off w a s) := by
  cases a with
  | read => apply answerRead_sorted; exact .refl s
  | write v => apply answerWrite_sorted; exact .refl s

theorem hostCase_issue {i : Instr} {c : Command} (hi : Issues i c) (s : State) (r : Reply) :
    HostCase i s { issue c s with reply := r } := by
  obtain ⟨-, h⟩ | ⟨hb, ha, h⟩ | ⟨-, -, h⟩ := issue_cases c s <;> rw [h]
  · exact .aside ((aside_raise _ _ s).trans (aside_of_eq rfl))
  · exact .accepted c hi hb ha r
  · exact .aside (Aside.trans ⟨keepsEngine_raiseAll _ _ s, by rw [raiseAll_frame]⟩ (aside_of_eq rfl))

theorem eq_opcode_of_ofOpcode {op : BitVec 4} {c : Command} (h : Command.ofOpcode op = some c) :
    op = c.opcode := by
  unfold Command.ofOpcode at h
  split at h <;> cases h
  all_goals exact BitVec.eq_of_toNat_eq ‹_›

/-- A legal CMD word is the zero-extended opcode of its command (R70, R71). -/
theorem eq_opcode_of_ofWord {v : Word} {c : Command} (h : Command.ofWord v = some c) :
    v = c.opcode.setWidth 32 := by
  unfold Command.ofWord at h
  split at h
  case isFalse => cases h
  case isTrue hr =>
    rw [← eq_opcode_of_ofOpcode h]
    have hdiv := congrArg BitVec.toNat hr
    apply BitVec.eq_of_toNat_eq
    simp [cmdRsv, cmdOp, Nat.shiftRight_eq_div_pow] at hdiv ⊢
    omega

theorem answerCommand_sorted (c : Command) (s : State) : HostSorted c.instr s (answerCommand c s) :=
  ⟨_, hostCase_issue (.inl rfl) s .done, rfl⟩

theorem execWrCmd_sorted (w : Width) (v : Word) (s : State) :
    HostSorted (.wrCmd w v) s (execWrCmd w v s) := by
  unfold execWrCmd writeRegister answerWrite
  split
  case isFalse => exact hostSorted_error _ s
  case isTrue hw =>
    obtain rfl : w = .w32 := by simpa [legalWord] using hw
    refine ⟨_, ?_, rfl⟩
    unfold cmdWrite
    split
    · exact .aside ((aside_raise _ _ s).trans (aside_of_eq rfl))
    · rename_i c hc
      exact hostCase_issue (.inr (by rw [← eq_opcode_of_ofWord hc])) s .done

theorem execWrGrid_sorted (off : BitVec 16) (w : Width) (v : Word) (s : State) :
    HostSorted (.wrGrid off w v) s (execWrGrid off w v s) := by
  unfold execWrGrid answerWrite
  split
  case isFalse => exact hostSorted_error _ s
  case isTrue =>
    refine ⟨_, ?_, rfl⟩
    obtain ⟨-, -, h⟩ | ⟨-, -, h⟩ | ⟨hb, h⟩ := gridWrite_cases (widthBytes w) off.toNat v s <;> rw [h]
    · exact .aside ((aside_raiseAcc _ s).trans (aside_of_eq rfl))
    · exact .aside (aside_of_eq rfl)
    · exact .stored off w v rfl hb _ _ .done

/-- Every row of the table falls under one of the cases. -/
theorem exec_sorted (i : Instr) (s : State) : HostSorted i s (exec i s) := by
  unfold exec
  cases i with
  | nop => exact answerCommand_sorted .nop s
  | init => exact answerCommand_sorted .init s
  | clear => exact answerCommand_sorted .clear s
  | buildPal => exact answerCommand_sorted .buildPal s
  | step => exact answerCommand_sorted .step s
  | render => exact answerCommand_sorted .render s
  | effect => exact answerCommand_sorted .effect s
  | wrCmd w v => exact execWrCmd_sorted w v s
  | wrGrid off w v => exact execWrGrid_sorted off w v s
  | rdId w | rdGeom w | rdCmd w | rdStatus w | rdIrqEn w | rdParam w | rdDstBase w | rdDstPitch w
  | rdDstDepth w | rdLastErr w | rdFaultAddr w | rdConvHsl w | rdConvRgb w | rdConvPix w =>
    exact readRegister_sorted w _ s
  | wrId w | wrGeom w | wrLastErr w | wrFaultAddr w | wrConvRgb w | wrConvPix w | wrPal _ w
  | wrIrqEn w | wrParam w | wrDstBase w | wrDstPitch w | wrDstDepth w | conv w =>
    apply writeRegister_sorted
    exact aside_of_eq rfl
  | wrStatus w v =>
    apply writeRegister_sorted
    exact aside_statusWrite v s
  | rdPal index w =>
    apply answerRead_sorted
    exact aside_palAfterRead index s
  | rdGrid off w =>
    apply answerRead_sorted
    exact aside_gridAfterRead _ _ s
  | rsv0002C w a | rsv0003C w a | rsv00040 _ w a | rsv00080 _ w a | rsv00100 _ w a
  | rsv00200 _ w a | rsv00800 _ w a | rsv01000 _ w a | rsv02000 _ w a | rsv04000 _ w a
  | rsv08000 _ w a => exact accessReserved_sorted _ w a s

/-- A transaction that is no instruction records at most an illegal word (R55, R75). -/
theorem hostTurn_cases {txn : Txn} {s t : State} (h : hostTurn txn s = .next t) :
    Aside s t ∨ ∃ i, decode txn = .ok i ∧ HostCase i s t := by
  unfold hostTurn at h
  split at h
  · rename_i i hd
    obtain ⟨u, hu, he⟩ := exec_sorted i s
    cases he.symm.trans h
    exact .inr ⟨i, hd, hu⟩
  · cases h
    exact .inl ((aside_raise _ _ s).trans (aside_of_eq rfl))
  · cases h
    exact .inl (aside_of_eq rfl)

/-! ## Turns of the engine -/

/-- What an engine turn can do, one case for each way through its phases (R105, R110, R111, R130, R141). In
the drawing loop `u` is the state the pixel write left. -/
inductive EngineCase (s : State) : State → Prop
  | idle (hp : s.pos = .idle) : EngineCase s s
  | entry (i : Nat) (hp : s.pos = .pal i) (hi : i < 256) :
      EngineCase s { s with pal := Memory.write s.pal i (s.builtEntry (BitVec.ofNat 8 i)), pos := .pal (i + 1) }
  | built (i : Nat) (hp : s.pos = .pal i) (hi : 256 ≤ i) :
      EngineCase s { s with pos := if s.lat.op = .init then .clear 0 else .finish }
  | zeroed (i : Nat) (hp : s.pos = .clear i) (hi : i < s.cells) :
      EngineCase s { s.setCell i 0 with pos := .clear (i + 1) }
  | cleared (i : Nat) (hp : s.pos = .clear i) (hi : s.cells ≤ i) : EngineCase s { s with pos := .finish }
  | stepped (i : Nat) (hp : s.pos = .step i) (hi : i < s.upperCells) (v : Byte) (o : Bool) :
      EngineCase s { s.setCell i v with pos := .step (i + 1), ovfSeen := o }
  | advanced (i : Nat) (hp : s.pos = .step i) (hi : s.upperCells ≤ i) (u : State) (hu : Aside s u) :
      EngineCase s { u with pos := if s.lat.op = .effect then .blit 0 else .finish }
  | drawn (i : Nat) (hp : s.pos = .blit i) (hi : i < s.upperCells) (u : State) (hu : KeepsEngine s u) :
      EngineCase s { u with pos := .blit (i + 1) }
  | aborted (i : Nat) (hp : s.pos = .blit i) (hi : i < s.upperCells) (u : State) (hu : KeepsEngine s u)
      (hbus : u.flag 21 = true) : EngineCase s (abort u)
  | rendered (i : Nat) (hp : s.pos = .blit i) (hi : s.upperCells ≤ i) : EngineCase s { s with pos := .finish }
  | completed (hp : s.pos = .finish) : EngineCase s (complete s)

theorem palTurn_case {s : State} {i : Nat} (hp : s.pos = .pal i) : EngineCase s (palTurn i s) := by
  unfold palTurn
  split
  · exact .entry i hp ‹_›
  · exact .built i hp (by omega)

theorem clearTurn_case {s : State} {i : Nat} (hp : s.pos = .clear i) : EngineCase s (clearTurn i s) := by
  unfold clearTurn
  split
  · exact .zeroed i hp ‹_›
  · exact .cleared i hp (by omega)

theorem stepTurn_case {s : State} {i : Nat} (hp : s.pos = .step i) : EngineCase s (stepTurn i s) := by
  unfold stepTurn
  split
  · exact .stepped i hp ‹_› _ _
  · refine .advanced i hp (by omega) _ ?_
    split
    · exact aside_raise _ _ s
    · exact aside_of_eq rfl

theorem blitTurn_case {s : State} {i : Nat} (r : PortResponse) (hp : s.pos = .blit i) :
    EngineCase s (blitTurn r i s) := by
  have hw := keepsEngine_memWrite (s.pixelAddr i) (s.pixelValue i) r s
  unfold blitTurn
  dsimp only
  split
  · rename_i hi
    split
    · exact .drawn i hp hi _ hw
    · refine .aborted i hp hi _ (hw.trans (keepsEngine_raiseBus _ _ _)) ?_
      simp [flag_raiseBus _ _ _ 21 (by decide)]
  · exact .rendered i hp (by omega)

theorem engineTurn_case (r : PortResponse) (s : State) : EngineCase s (engineTurn r s) := by
  unfold engineTurn
  cases hp : s.pos with
  | idle => exact .idle hp
  | pal i => exact palTurn_case hp
  | clear i => exact clearTurn_case hp
  | step i => exact stepTurn_case hp
  | blit i => exact blitTurn_case r hp
  | finish => exact .completed hp

/-! ## The step -/

/-- What one step can do. The turn taken leaves the list of turns, and the engine moving alone moves the draws:
`v` is `s` but for those two. -/
inductive StepCase (s : State) : State → Prop
  | aside {t : State} (h : Aside s t) : StepCase s t
  | stored {t : State} (h : KeepsEngine s t) (hb : s.busy = false) (txn : Txn) (hn : hostNext s txn)
      (off : BitVec 16) (w : Width) (v : Word) (hd : decode txn = .ok (.wrGrid off w v)) : StepCase s t
  | accepted (txn : Txn) (hn : hostNext s txn) (i : Instr) (hd : decode txn = .ok i) (c : Command)
      (hi : Issues i c) (hb : s.busy = false) (ha : acceptFails c s = []) (ts : List Turn) (r : Reply) :
      StepCase s { accept c { s with turns := ts } with reply := r }
  | engine (hn : engineNext s) (ts : List Turn) (d : Nat) {t : State}
      (h : EngineCase { s with turns := ts, draws := d } t) : StepCase s t
  | reset (f : Option PortResponse) (rest : List Turn) (hn : s.turns = .reset f :: rest) :
      StepCase s (resetTurn f { s with turns := rest })

theorem agentWriteTurn_aside (a : Word) (v : Byte) (s : State) : Aside s (agentWriteTurn a v s) := by
  unfold agentWriteTurn
  split
  · exact aside_of_eq rfl
  · exact ⟨keepsEngine_memory (wf_write _ _ v · a.isLt) id, rfl⟩

theorem agentReadTurn_aside (a : Word) (s : State) : Aside s (agentReadTurn a s) := by
  unfold agentReadTurn
  split <;> exact aside_of_eq rfl

theorem maintainTurn_aside (s : State) : Aside s (maintainTurn s) :=
  Aside.trans (u := { s with mem := s.mem, stale := [] })
    ⟨keepsEngine_memory id fun _ => ⟨.nil, by simp⟩, rfl⟩ (aside_of_eq rfl)

theorem hostTurn_stepCase {txn : Txn} {rest : List Turn} {s t : State} (hn : s.turns = .host txn :: rest)
    (h : hostTurn txn { s with turns := rest } = .next t) : StepCase s t := by
  have hrest : Aside s { s with turns := rest } := aside_of_eq rfl
  obtain ha | ⟨i, hd, hc⟩ := hostTurn_cases h
  · exact .aside (hrest.trans ha)
  · cases hc with
    | aside ha => exact .aside (hrest.trans ha)
    | stored off w v hi hb n k r =>
      have hs := hrest.toKeepsEngine.trans (keepsEngine_storeCells n 0 k v hb)
      exact .stored (hs.trans (keepsEngine_of_eq rfl)) hb txn ⟨rest, hn⟩ off w v (hi ▸ hd)
    | accepted c hi hb ha r => exact .accepted txn ⟨rest, hn⟩ i hd c hi hb ha rest r

/-- The engine moving alone is an engine turn, of the same state but for the draws. -/
theorem autonomousTurn_case (s : State) :
    ∃ d, EngineCase { s with draws := d } (autonomousTurn s) := by
  unfold autonomousTurn
  split
  · exact ⟨s.draws + 1, engineTurn_case _ _⟩
  all_goals exact ⟨s.draws, engineTurn_case _ _⟩

theorem autonomousTurn_stepCase {s : State} (hn : s.turns = []) : StepCase s (autonomousTurn s) := by
  obtain ⟨d, h⟩ := autonomousTurn_case s
  exact .engine (.inl hn) s.turns d h

theorem step_stepCase {s t : State} (h : step s = .next t) : StepCase s t := by
  cases hn : s.turns with
  | nil =>
    cases (step_nil hn).symm.trans h
    exact autonomousTurn_stepCase hn
  | cons n rest =>
    have hrest : Aside s { s with turns := rest } := aside_of_eq rfl
    have ht := (step_cons hn).symm.trans h
    cases n with
    | host txn => exact hostTurn_stepCase hn ht
    | engine r => cases ht; exact .engine (.inr ⟨r, rest, hn⟩) rest s.draws (engineTurn_case r _)
    | reset f => cases ht; exact .reset f rest hn
    | agentWrite a v => cases ht; exact .aside (hrest.trans (agentWriteTurn_aside a v _))
    | agentRead a => cases ht; exact .aside (hrest.trans (agentReadTurn_aside a _))
    | maintain => cases ht; exact .aside (hrest.trans (maintainTurn_aside _))

end Sys2Proof.Machine
end

section
/-! PROOF. The step rules of the block's state: the reserved bits of STATUS, the canonical form of the arrays,
BUSY, the validity bits, the latched operands and the bottom row (10_state.md R27, R40 to R44, R47). -/

namespace Sys2Proof.Machine

open Sys2Proof.Claims

/-! ## Acceptance -/

/-- The acceptance checks pass exactly when the conditions of R140 hold. -/
theorem failsNoInit_iff (c : Command) (s : State) : failsNoInit c s = true ↔ missesArray c s := by
  cases c <;> simp [failsNoInit, missesArray, Command.readsGrid, Command.draws, State.gridValid,
    State.palValid, State.flag, bitGridValid, bitPalValid]

theorem failsDepth_iff (c : Command) (s : State) : failsDepth c s = true ↔ wrongDepth c s := by
  cases c <;> simp [failsDepth, wrongDepth, Command.draws, ← BitVec.toNat_inj]

/-- Bit 0 of a word says whether it is odd. -/
theorem getLsbD_zero_iff (v : Word) : v.getLsbD 0 = true ↔ v.toNat % 2 = 1 := by
  simp [BitVec.getLsbD, Nat.testBit_zero]

theorem failsAlign_iff (c : Command) (s : State) : failsAlign c s = true ↔ oddDestination c s := by
  unfold failsAlign oddDestination
  rw [Bool.and_eq_true, Bool.or_eq_true, getLsbD_zero_iff, getLsbD_zero_iff]
  cases c <;> simp [Command.draws]

/-- PARAM.DIV as a number. -/
theorem div_toNat (s : State) : s.div.toNat = s.param.toNat / 0x10000 := by
  have := s.param.isLt
  simp [State.div, Nat.shiftRight_eq_div_pow]
  omega

theorem failsDiv0_iff (c : Command) (s : State) : failsDiv0 c s = true ↔ zeroDivider c s := by
  unfold failsDiv0 zeroDivider
  rw [← div_toNat]
  cases c <;> simp [Command.diffuses, ← BitVec.toNat_inj]

/-- No acceptance check of the model fails exactly when every check of R140 passes. -/
theorem acceptFails_eq_nil_iff (c : Command) (s : State) : acceptFails c s = [] ↔ acceptable c s := by
  rw [acceptFails_eq_nil]
  simp only [acceptable, ← failsNoInit_iff, ← failsDepth_iff, ← failsAlign_iff, ← failsDiv0_iff,
    Bool.not_eq_true]

/-- Acceptance sets BUSY and no other bit. -/
theorem flag_accept (c : Command) (s : State) (b : Nat) (hb : b < 32) :
    (accept c s).flag b = (s.flag b || decide (b = 0)) := by
  rw [accept_eq]
  exact flag_setFlag s bitBusy b hb

/-! ## The reserved bits of STATUS -/

theorem statusWf_accept (c : Command) {s : State} (h : StatusWf s) : StatusWf (accept c s) := by
  rw [statusWf_iff] at h ⊢
  intro b hb hf
  rw [flag_accept c s b hb, Bool.or_eq_true, decide_eq_true_eq] at hf
  obtain hf | rfl := hf
  · exact h b hb hf
  · exact .inl (by decide)

theorem statusWf_abort {s : State} (h : StatusWf s) : StatusWf (abort s) := by
  rw [statusWf_iff] at h ⊢
  intro b hb hf
  rw [flag_abort s b hb, Bool.and_eq_true] at hf
  exact h b hb hf.1

theorem statusWf_complete {s : State} (h : StatusWf s) : StatusWf (complete s) := by
  rw [statusWf_iff] at h ⊢
  intro b hb hf
  rw [flag_complete s b hb] at hf
  cases hs : s.flag b with
  | true => exact h b hb hs
  | false =>
    simp [hs] at hf
    omega

theorem EngineCase.reserved {s t : State} (h : EngineCase s t) (hs : StatusWf s) : StatusWf t := by
  cases h with
  | advanced i hp hi u hu => exact hu.reserved hs
  | drawn i hp hi u hu => exact hu.reserved hs
  | aborted i hp hi u hu => exact statusWf_abort (hu.reserved hs)
  | completed => exact statusWf_complete hs
  | idle | entry | built | zeroed | cleared | stepped | rendered => exact hs

theorem StepCase.reserved {s t : State} (h : StepCase s t) (hs : StatusWf s) : StatusWf t := by
  cases h with
  | aside h => exact h.reserved hs
  | stored h => exact h.reserved hs
  | accepted txn hn i hd c hi hb ha ts r => exact statusWf_accept (s := { s with turns := ts }) c hs
  | engine hn ts d h => exact h.reserved hs
  | reset => exact (by decide : (0 : Word) &&& ~~~statusDefined = 0)

/-- Settles O34: an update beside the engine, an acceptance and every turn of the engine set defined bits
only. -/
theorem reservedStatusBitsStayZero : Obligations.ReservedStatusBitsStayZero :=
  fun s t hs h => (statusWf_iff_mask t).1 ((step_stepCase h).reserved ((statusWf_iff_mask s).2 hs))

/-! ## The canonical form of the arrays -/

theorem upperCells_le_cells (s : State) : s.upperCells ≤ s.cells := by
  rw [State.upperCells, State.cells, Nat.mul_comm s.params.gridW]
  exact Nat.mul_le_mul_right _ (Nat.sub_le _ _)

theorem storageWf_setCell {s : State} {i : Nat} (v : Byte) (hi : i < s.cells) (h : StorageWf s) :
    StorageWf (s.setCell i v) := by
  obtain ⟨hmem, hgrid, hpal, hsnap, hstale⟩ := h
  exact ⟨hmem, wf_write _ _ _ hgrid hi, hpal, hsnap, hstale⟩

theorem storageWf_accept (c : Command) {s : State} (h : StorageWf s) : StorageWf (accept c s) := by
  obtain ⟨hmem, hgrid, hpal, hsnap, hstale⟩ := h
  rw [accept_eq]
  refine ⟨hmem, hgrid, hpal, ?_, hstale⟩
  dsimp only
  split
  · exact hgrid
  · exact hsnap

theorem storageWf_complete {s : State} (h : StorageWf s) : StorageWf (complete s) := by
  rw [complete_frame]
  exact h

theorem EngineCase.storage {s t : State} (h : EngineCase s t) (hs : StorageWf s) : StorageWf t := by
  cases h with
  | entry i hp hi =>
    obtain ⟨hmem, hgrid, hpal, hsnap, hstale⟩ := hs
    exact ⟨hmem, hgrid, wf_write _ _ _ hpal hi, hsnap, hstale⟩
  | zeroed i hp hi => exact storageWf_setCell 0 hi hs
  | stepped i hp hi v => exact storageWf_setCell v (hi.trans_le (upperCells_le_cells s)) hs
  | advanced i hp hi u hu => exact hu.storage hs
  | drawn i hp hi u hu => exact hu.storage hs
  | aborted i hp hi u hu => exact hu.storage hs
  | completed => exact storageWf_complete hs
  | idle | built | cleared | rendered => exact hs

/-- What an issued pixel write leaves when reset is asserted is no more than a pixel write can do (R190). -/
theorem keepsEngine_landInFlight (f : Option PortResponse) (s : State) : KeepsEngine s (landInFlight f s) := by
  obtain h | ⟨r, i, -, -, -, h⟩ := landInFlight_cases f s <;> rw [h]
  · exact .refl s
  · exact keepsEngine_memWrite _ _ r s

theorem storageWf_resetTurn (f : Option PortResponse) {s : State} (h : StorageWf s) :
    StorageWf (resetTurn f s) := by
  obtain ⟨hmem, -, -, -, hstale⟩ := (keepsEngine_landInFlight f s).storage h
  exact ⟨hmem, wf_nil _, wf_nil _, wf_nil _, hstale⟩

theorem StepCase.storage {s t : State} (h : StepCase s t) (hs : StorageWf s) : StorageWf t := by
  cases h with
  | aside h => exact h.storage hs
  | stored h => exact h.storage hs
  | accepted txn hn i hd c hi hb ha ts r => exact storageWf_accept (s := { s with turns := ts }) c hs
  | engine hn ts d h => exact h.storage hs
  | reset f rest => exact storageWf_resetTurn (s := { s with turns := rest }) f hs

/-- Settles O33: every write of an array goes to a key below its size, and `Memory.write`, `Memory.erase` and
`addAddress` keep the order of the keys. -/
theorem everyStepKeepsStorageCanonical : Obligations.EveryStepKeepsStorageCanonical :=
  fun _ _ hs h => (step_stepCase h).storage hs

/-! ## The latched operands -/

theorem EngineCase.operands {s t : State} (h : EngineCase s t) : t.lat = s.lat ∧ t.snap = s.snap := by
  cases h with
  | advanced i hp hi u hu => exact ⟨hu.lat, hu.snap⟩
  | drawn i hp hi u hu => exact ⟨hu.lat, hu.snap⟩
  | aborted i hp hi u hu => exact ⟨hu.lat, hu.snap⟩
  | completed =>
    rw [complete_frame]
    exact ⟨rfl, rfl⟩
  | idle | entry | built | zeroed | cleared | stepped | rendered => exact ⟨rfl, rfl⟩

/-- Settles O41: only acceptance and reset write the latches and the snapshot, and a busy block accepts
nothing. -/
theorem latchedOperandsAreFixedWhileBusy : Obligations.LatchedOperandsAreFixedWhileBusy := by
  intro s t h hbusy hreset
  cases step_stepCase h with
  | aside h => exact ⟨h.lat, h.snap⟩
  | stored h => exact ⟨h.lat, h.snap⟩
  | accepted txn hn i hd c hi hb => exact absurd (hb.symm.trans hbusy) (by decide)
  | engine hn ts d h => exact h.operands
  | reset f rest hn => exact absurd ⟨f, rest, hn⟩ hreset

/-! ## The state bits of STATUS -/

/-- The engine changes the state bits in two ways only: it completes the command, or it aborts the drawing
loop, which clears BUSY and leaves E_BUS set (R135, R141). -/
theorem EngineCase.flags {s t : State} (h : EngineCase s t) :
    (∀ b, b ≤ 2 → t.flag b = s.flag b) ∨ (s.pos = .finish ∧ t = complete s) ∨
      ((∃ i, s.pos = .blit i) ∧ t.flag 21 = true ∧ t.busy = false ∧
        ∀ b, b = 1 ∨ b = 2 → t.flag b = s.flag b) := by
  cases h with
  | advanced i hp hi u hu => exact .inl hu.flags
  | drawn i hp hi u hu => exact .inl hu.flags
  | aborted i hp hi u hu hbus =>
    refine .inr (.inr ⟨⟨i, hp⟩, ?_, flag_abort u 0 (by decide) |>.trans (by simp), fun b hb => ?_⟩)
    · rw [flag_abort u 21 (by decide), hbus]
      rfl
    · rw [flag_abort u b (by omega), hu.flags b (by omega), decide_eq_false (by omega : b ≠ 0),
        Bool.not_false, Bool.and_true]
  | completed hp => exact .inr (.inl ⟨hp, rfl⟩)
  | idle | entry | built | zeroed | cleared | stepped | rendered => exact .inl fun _ _ => rfl

/-- Reset clears STATUS (R190). -/
theorem resetTurn_flag (f : Option PortResponse) (s : State) (b : Nat) : (resetTurn f s).flag b = false :=
  BitVec.getLsbD_zero

@[simp] theorem complete_busy (s : State) : (complete s).busy = false :=
  (flag_complete s 0 (by decide)).trans (by simp)

theorem complete_gridValid (s : State) : (complete s).flag 1 =
    (s.flag 1 || (decide (s.lat.op = .init) || decide (s.lat.op = .clear))) := by
  simp [flag_complete s 1 (by decide)]

theorem complete_palValid (s : State) : (complete s).flag 2 =
    (s.flag 2 || (decide (s.lat.op = .init) || decide (s.lat.op = .buildPal))) := by
  simp [flag_complete s 2 (by decide)]

/-- BUSY rises by acceptance alone (R140). -/
theorem StepCase.busy_rises {s t : State} (h : StepCase s t) (hs : s.busy = false) (ht : t.busy = true) :
    ∃ txn i c, hostNext s txn ∧ decode txn = .ok i ∧ Issues i c ∧ acceptFails c s = [] := by
  cases h with
  | aside h => exact absurd (ht.symm.trans (h.busy.trans hs)) (by decide)
  | stored h => exact absurd (ht.symm.trans (h.busy.trans hs)) (by decide)
  | accepted txn hn i hd c hi hb ha => exact ⟨txn, i, c, hn, hd, hi, ha⟩
  | engine hn ts d h =>
    obtain h | ⟨-, rfl⟩ | ⟨-, -, h, -⟩ := h.flags
    · exact absurd (ht.symm.trans ((h 0 (by decide)).trans hs)) (by decide)
    · exact absurd (ht.symm.trans (complete_busy _)) (by decide)
    · exact absurd (ht.symm.trans h) (by decide)
  | reset f rest => exact absurd (ht.symm.trans (resetTurn_flag f _ 0)) (by decide)

/-- BUSY falls by reset, by completion or by an abort (R47). -/
theorem StepCase.busy_falls {s t : State} (h : StepCase s t) (hs : s.busy = true) (ht : t.busy = false) :
    resetNext s ∨ (engineNext s ∧ (s.pos = .finish ∨ ∃ i, s.pos = .blit i ∧ t.flag 21 = true)) := by
  cases h with
  | aside h => exact absurd (ht.symm.trans (h.busy.trans hs)) (by decide)
  | stored h => exact absurd (ht.symm.trans (h.busy.trans hs)) (by decide)
  | accepted txn hn i hd c hi hb => exact absurd (hb.symm.trans hs) (by decide)
  | engine hn ts d h =>
    obtain h | ⟨hp, -⟩ | ⟨⟨i, hp⟩, hbus, -, -⟩ := h.flags
    · exact absurd (ht.symm.trans ((h 0 (by decide)).trans hs)) (by decide)
    · exact .inr ⟨hn, .inl hp⟩
    · exact .inr ⟨hn, .inr ⟨i, hp, hbus⟩⟩
  | reset f rest hn => exact .inl ⟨f, rest, hn⟩

/-- Settles O37: BUSY is bit 0 of STATUS, which only acceptance sets and only completion, abort and reset
clear. -/
theorem busyChangesOnlyAsStated : Obligations.BusyChangesOnlyAsStated := by
  intro s t h
  refine ⟨fun hs ht => ?_, (step_stepCase h).busy_falls⟩
  obtain ⟨txn, i, c, hn, hd, hi, ha⟩ := (step_stepCase h).busy_rises hs ht
  refine ⟨txn, c, hn, (acceptFails_eq_nil_iff c s).1 ha, ?_⟩
  obtain rfl | rfl := hi
  · exact .inl hd
  · exact .inr hd

/-- A validity bit changes only by completion and by reset (R27). -/
theorem StepCase.validity {s t : State} (h : StepCase s t) {b : Nat} (hb : b = 1 ∨ b = 2) :
    t.flag b = s.flag b ∨ (resetNext s ∧ t.flag b = false) ∨
      (engineNext s ∧ s.pos = .finish ∧ t.flag b = (complete s).flag b) := by
  cases h with
  | aside h => exact .inl (h.flags b (by omega))
  | stored h => exact .inl (h.flags b (by omega))
  | accepted txn hn i hd c hi hbusy ha ts r =>
    have h := flag_accept c { s with turns := ts } b (by omega)
    rw [decide_eq_false (by omega : b ≠ 0), Bool.or_false] at h
    exact .inl h
  | engine hn ts d h =>
    obtain h | ⟨hp, rfl⟩ | ⟨-, -, -, h⟩ := h.flags
    · exact .inl (h b (by omega))
    · refine .inr (.inr ⟨hn, hp, ?_⟩)
      rw [flag_complete _ b (by omega), flag_complete _ b (by omega)]
      rfl
    · exact .inl (h b hb)
  | reset f rest hn => exact .inr (.inl ⟨⟨f, rest, hn⟩, resetTurn_flag f _ b⟩)

/-- Settles O38: completion keeps a validity bit that is set and sets it for its commands only. -/
theorem validityBitsChangeOnlyAsStated : Obligations.ValidityBitsChangeOnlyAsStated := by
  intro s t h
  have hgrid := (step_stepCase h).validity (.inl rfl)
  have hpal := (step_stepCase h).validity (.inr rfl)
  rw [complete_gridValid] at hgrid
  rw [complete_palValid] at hpal
  refine ⟨fun hs ht => ?_, fun hs ht => ?_, fun hs ht => ?_, fun hs ht => ?_⟩
  · simpa [hs, ht] using hgrid
  · simpa [hs, ht] using hpal
  · simpa [hs, ht, or_comm] using hgrid
  · simpa [hs, ht, or_comm] using hpal

end Sys2Proof.Machine
end

section
/-! PROOF. The invariant of the machine: it holds after reset and every step keeps it (10_state.md R27, R42, R45,
R47; 20_memory.md R57; 60_exceptions.md R160). -/

namespace Sys2Proof.Machine

open Sys2Proof.Claims

/-! ## After reset -/

theorem inv_initial {p : Params} (h : p.Valid) : Inv (State.initial p) where
  params := h
  storage := ⟨wf_nil _, wf_nil _, wf_nil _, wf_nil _, .nil, by simp [State.initial]⟩
  status := (by decide : (0 : Word) &&& ~~~statusDefined = 0)
  arrays := ⟨fun h => absurd h (by simp [State.initial, State.gridValid, State.flag]),
    fun h => absurd h (by simp [State.initial, State.palValid, State.flag])⟩
  engine := (BitVec.getLsbD_zero : (State.initial p).flag 0 = false)
  cause := by simp [State.initial]

/-- Settles O31: the engine is idle, no array is listed and STATUS is 0. -/
theorem invHoldsAfterReset : Obligations.InvHoldsAfterReset :=
  ⟨fun _ => inv_initial, inv_initial (by decide)⟩

/-! ## Beside the engine -/

theorem paletteBuilt_congr {s u : State} (hp : u.params = s.params) (hpal : u.pal = s.pal)
    (h : PaletteBuilt s) : PaletteBuilt u := by
  simpa only [PaletteBuilt, State.builtEntry, hp, hpal] using h

theorem KeepsEngine.paletteBuilt {s u : State} (h : KeepsEngine s u) (hs : PaletteBuilt s) :
    PaletteBuilt u := paletteBuilt_congr h.params h.pal hs

theorem KeepsEngine.cells {s u : State} (h : KeepsEngine s u) : u.cells = s.cells := by
  simp only [State.cells, h.params]

theorem KeepsEngine.upperCells {s u : State} (h : KeepsEngine s u) : u.upperCells = s.upperCells := by
  simp only [State.upperCells, h.params]

theorem KeepsEngine.builtEntry {s u : State} (h : KeepsEngine s u) : u.builtEntry = s.builtEntry := by
  funext x
  simp only [State.builtEntry, h.params]

theorem KeepsEngine.gridValid {s u : State} (h : KeepsEngine s u) : u.gridValid = s.gridValid :=
  h.flags 1 (by decide)

theorem KeepsEngine.palValid {s u : State} (h : KeepsEngine s u) : u.palValid = s.palValid :=
  h.flags 2 (by decide)

theorem KeepsEngine.arraysValid {s u : State} (h : KeepsEngine s u) (hs : ArraysValid s) : ArraysValid u :=
  ⟨fun hv => h.known (hs.1 (h.gridValid.symm.trans hv)),
    fun hv => h.paletteBuilt (hs.2 (h.palValid.symm.trans hv))⟩

/-- In every phase of a command the update is invisible; an idle engine only has BUSY to agree with. -/
theorem KeepsEngine.engineWf {s u : State} (h : KeepsEngine s u) (hs : EngineWf s) : EngineWf u := by
  unfold EngineWf at hs ⊢
  rw [h.pos]
  cases hp : s.pos with
  | idle =>
    simp only [hp] at hs
    exact h.busy.trans hs
  | pal | clear | step | blit | finish =>
    simp only [hp] at hs
    have hg := h.grid hs.1
    simpa only [PaletteBuilt, DestinationEven, h.busy, h.lat, h.pal, h.snap, h.cells, h.upperCells,
      h.builtEntry, h.gridValid, h.palValid, hg] using hs

theorem KeepsEngine.inv {s u : State} (h : KeepsEngine s u) (hs : Inv s) : Inv u where
  params := h.params ▸ hs.params
  storage := h.storage hs.storage
  status := h.reserved hs.status
  arrays := h.arraysValid hs.arrays
  engine := h.engineWf hs.engine
  cause := h.cause hs.cause

/-! ## Acceptance -/

/-- An accepted command that draws has an even destination (R57, R140). -/
theorem destinationEven_accept {c : Command} {s : State} (hc : c = .render ∨ c = .effect)
    (ha : acceptable c s) : DestinationEven (accept c s) := by
  obtain ⟨-, -, hodd, -⟩ := ha
  simp only [oddDestination, hc, true_and] at hodd
  rw [accept_eq]
  exact ⟨by simp only [latchOperands]; omega, by simp only [latchOperands]; omega⟩

/-- An accepted command that diffuses has a divider (R140). -/
theorem div_ne_zero_of_acceptable {c : Command} {s : State} (hc : c = .step ∨ c = .effect)
    (ha : acceptable c s) : s.div ≠ 0 := by
  obtain ⟨-, -, -, hdiv⟩ := ha
  simp only [zeroDivider, hc, true_and, ← div_toNat] at hdiv
  exact fun h => hdiv (by simp [h])

/-- An accepted command that reads the grid finds it valid (R140). -/
theorem gridValid_of_acceptable {c : Command} {s : State} (hc : c = .step ∨ c = .render ∨ c = .effect)
    (ha : acceptable c s) : s.gridValid = true := by
  obtain ⟨hm, -⟩ := ha
  simp only [missesArray, hc, true_and, not_or, Bool.not_eq_false] at hm
  exact hm.1

/-- An accepted command that reads the palette finds it valid (R140). -/
theorem palValid_of_acceptable {c : Command} {s : State} (hc : c = .render ∨ c = .effect)
    (ha : acceptable c s) : s.palValid = true := by
  obtain ⟨hm, -⟩ := ha
  simp only [missesArray, hc, true_and, not_or, Bool.not_eq_false] at hm
  exact hm.2

theorem accept_busy (c : Command) (s : State) : (accept c s).busy = true :=
  (flag_accept c s 0 (by decide)).trans (by simp)

theorem accept_gridValid (c : Command) (s : State) : (accept c s).gridValid = s.gridValid :=
  (flag_accept c s 1 (by decide)).trans (by simp [State.gridValid])

theorem accept_palValid (c : Command) (s : State) : (accept c s).palValid = s.palValid :=
  (flag_accept c s 2 (by decide)).trans (by simp [State.palValid])

theorem accept_grid (c : Command) (s : State) : (accept c s).grid = s.grid := by rw [accept_eq]

theorem accept_pal (c : Command) (s : State) : (accept c s).pal = s.pal := by rw [accept_eq]

theorem arraysValid_accept (c : Command) {s : State} (h : ArraysValid s) : ArraysValid (accept c s) := by
  refine ⟨fun hv => ?_, fun hv => ?_⟩
  · rw [accept_gridValid] at hv
    have hk := h.1 hv
    rwa [accept_grid, State.cells, accept_params]
  · rw [accept_palValid] at hv
    exact paletteBuilt_congr (accept_params c s) (accept_pal c s) (h.2 hv)

/-- The engine starts in a phase of its command, with what the acceptance checks promise (R140). -/
theorem engineWf_accept {c : Command} {s : State} (hs : Inv s) (ha : acceptable c s) :
    EngineWf (accept c s) := by
  have hbusy := accept_busy c s
  have hgv := accept_gridValid c s
  have hpv := accept_palValid c s
  have hlat : (accept c s).lat = latchOperands c s := by rw [accept_eq]
  have hpos : (accept c s).pos = startPos c := by rw [accept_eq]
  unfold EngineWf
  cases c with
  | nop => simp [hpos, startPos, hbusy, hlat, latchOperands]
  | init => simp [hpos, startPos, hbusy, hlat, latchOperands]
  | clear => simp [hpos, startPos, hbusy, hlat, latchOperands]
  | buildPal => simp [hpos, startPos, hbusy, hlat, latchOperands]
  | step =>
    have hv := gridValid_of_acceptable (.inl rfl) ha
    have hd := div_ne_zero_of_acceptable (.inl rfl) ha
    have hk := hs.arrays.1 hv
    simpa [hpos, startPos, hbusy, hlat, latchOperands, hgv, hv] using ⟨hk, hd⟩
  | effect =>
    have hv := gridValid_of_acceptable (.inr (.inr rfl)) ha
    have hp := palValid_of_acceptable (.inr rfl) ha
    have hd := div_ne_zero_of_acceptable (.inr rfl) ha
    have he := destinationEven_accept (.inr rfl) ha
    have hk := hs.arrays.1 hv
    simpa [hpos, startPos, hbusy, hlat, latchOperands, hgv, hv, hpv, hp, he] using ⟨hk, hd⟩
  | render =>
    have hv := gridValid_of_acceptable (.inr (.inl rfl)) ha
    have hp := palValid_of_acceptable (.inl rfl) ha
    have he := destinationEven_accept (.inl rfl) ha
    simp [hpos, startPos, hbusy, hlat, latchOperands, hgv, hv, hpv, hp, he]

theorem inv_accept {c : Command} {s : State} (hs : Inv s) (ha : acceptable c s) : Inv (accept c s) where
  params := accept_params c s ▸ hs.params
  storage := storageWf_accept c hs.storage
  status := statusWf_accept c hs.status
  arrays := arraysValid_accept c hs.arrays
  engine := engineWf_accept hs ha
  cause := by
    rw [accept_eq]
    exact hs.cause

/-! ## The engine -/

/-- The palette loop writes R104's value, so no entry loses it (R105). -/
theorem read_builtEntry_write (s : State) (i : Nat) (x : Byte) :
    Memory.read (Memory.write s.pal i (s.builtEntry (BitVec.ofNat 8 i))) x.toNat =
      if x.toNat = i then some (s.builtEntry x) else Memory.read s.pal x.toNat := by
  rw [read_write]
  split
  · rename_i h
    rw [← h, BitVec.ofNat_toNat, BitVec.setWidth_eq]
  · rfl

theorem cellsKnown_write {n : Nat} {m : List Host.Cell} (i : Nat) (v : Byte) (h : CellsKnown n m) :
    CellsKnown n (Memory.write m i v) := by
  intro k hk
  rw [read_write]
  split
  · rfl
  · exact h k hk

theorem abort_gridValid (s : State) : (abort s).gridValid = s.gridValid :=
  (flag_abort s 1 (by decide)).trans (by simp [State.gridValid])

theorem abort_palValid (s : State) : (abort s).palValid = s.palValid :=
  (flag_abort s 2 (by decide)).trans (by simp [State.palValid])

theorem EngineCase.arraysValid {s t : State} (h : EngineCase s t) (hs : Inv s) : ArraysValid t := by
  obtain ⟨hgrid, hpal⟩ := hs.arrays
  cases h with
  | entry i =>
    refine ⟨hgrid, fun hv x => ?_⟩
    have hx := hpal hv x
    rw [read_builtEntry_write]
    split
    · rfl
    · exact hx
  | zeroed i => exact ⟨fun hv => cellsKnown_write i 0 (hgrid hv), hpal⟩
  | stepped i hp hi v => exact ⟨fun hv => cellsKnown_write i v (hgrid hv), hpal⟩
  | advanced i hp hi u hu => exact hu.arraysValid hs.arrays
  | drawn i hp hi u hu => exact hu.arraysValid hs.arrays
  | aborted i hp hi u hu =>
    have hu := hu.arraysValid hs.arrays
    exact ⟨fun hv => hu.1 (abort_gridValid u ▸ hv), fun hv => hu.2 (abort_palValid u ▸ hv)⟩
  | completed hp =>
    have he := hs.engine
    simp only [EngineWf, hp] at he
    obtain ⟨-, hinit, hbuild, hclear⟩ := he
    have hg := complete_gridValid s
    have hpv := complete_palValid s
    rw [complete_frame] at hg hpv ⊢
    refine ⟨fun hv => ?_, fun hv => ?_⟩
    · have := hg.symm.trans hv
      simp only [Bool.or_eq_true, decide_eq_true_eq] at this
      exact this.elim hgrid hclear
    · have := hpv.symm.trans hv
      simp only [Bool.or_eq_true, decide_eq_true_eq] at this
      exact this.elim hpal fun h => h.elim hinit hbuild
  | idle | built | cleared | rendered => exact hs.arrays

/-- Where every entry below 256 is built, the palette is. -/
theorem paletteBuilt_of_all {s : State} {i : Nat} (hi : 256 ≤ i)
    (h : ∀ x : Byte, x.toNat < i → Memory.read s.pal x.toNat = some (s.builtEntry x)) : PaletteBuilt s :=
  fun x => h x (x.isLt.trans_le hi)

theorem EngineCase.engineWf {s t : State} (h : EngineCase s t) (hs : Inv s) : EngineWf t := by
  have he := hs.engine
  cases h with
  | idle => exact he
  | entry i hp hi =>
    simp only [EngineWf, hp] at he
    obtain ⟨hbusy, hop, -, hbuilt⟩ := he
    refine ⟨hbusy, hop, hi, fun x hx => ?_⟩
    refine (read_builtEntry_write s i x).trans ?_
    split
    · rfl
    · exact hbuilt x (by omega)
  | built i hp hi =>
    simp only [EngineWf, hp] at he
    obtain ⟨hbusy, hop, -, hbuilt⟩ := he
    have hpal := paletteBuilt_of_all hi hbuilt
    obtain hop | hop := hop
    · rw [if_pos hop]
      exact ⟨hbusy, .inl hop, Nat.zero_le _, fun k hk => absurd hk (Nat.not_lt_zero k), fun _ => hpal⟩
    · rw [if_neg (by simp [hop])]
      exact ⟨hbusy, fun _ => hpal, fun _ => hpal, by simp [hop]⟩
  | zeroed i hp hi =>
    simp only [EngineWf, hp] at he
    obtain ⟨hbusy, hop, -, hzero, hpal⟩ := he
    refine ⟨hbusy, hop, hi, fun k hk => ?_, hpal⟩
    refine (read_write s.grid i k 0).trans ?_
    split
    · rfl
    · exact hzero k (by omega)
  | cleared i hp hi =>
    simp only [EngineWf, hp] at he
    obtain ⟨hbusy, hop, -, hzero, hpal⟩ := he
    refine ⟨hbusy, hpal, fun hb => ?_, fun _ k hk => ?_⟩
    · rcases hop with hop | hop <;> exact absurd (hop.symm.trans hb) (by decide)
    · exact Option.isSome_iff_exists.2 ⟨0, hzero k (hk.trans_le hi)⟩
  | stepped i hp hi v =>
    simp only [EngineWf, hp] at he
    obtain ⟨hbusy, hop, -, hrest⟩ := he
    exact ⟨hbusy, hop, hi, hrest⟩
  | advanced i hp hi u hu =>
    have he := hu.engineWf he
    simp only [EngineWf, hu.pos, hp] at he
    obtain ⟨hbusy, hop, -, hgv, -, -, heffect⟩ := he
    rw [← hu.lat]
    obtain hop | hop := hop
    · rw [if_neg (by simp [hop])]
      exact ⟨hbusy, by simp [hop], by simp [hop], by simp [hop]⟩
    · obtain ⟨hpv, heven⟩ := heffect hop
      rw [if_pos hop]
      exact ⟨hbusy, .inr hop, Nat.zero_le _, hgv, hpv, heven⟩
  | drawn i hp hi u hu =>
    have he := hu.engineWf he
    simp only [EngineWf, hu.pos, hp] at he
    obtain ⟨hbusy, hop, -, hrest⟩ := he
    exact ⟨hbusy, hop, hu.upperCells ▸ hi, hrest⟩
  | aborted i hp hi u hu => exact (flag_abort u 0 (by decide)).trans (by simp)
  | rendered i hp hi =>
    simp only [EngineWf, hp] at he
    obtain ⟨hbusy, hop, -⟩ := he
    exact ⟨hbusy, by rcases hop with h | h <;> simp [h], by rcases hop with h | h <;> simp [h],
      by rcases hop with h | h <;> simp [h]⟩
  | completed =>
    have hb := complete_busy s
    rw [complete_frame] at hb ⊢
    exact hb

theorem EngineCase.params {s t : State} (h : EngineCase s t) : t.params = s.params := by
  cases h with
  | advanced i hp hi u hu => exact hu.params
  | drawn i hp hi u hu => exact hu.params
  | aborted i hp hi u hu => exact hu.params
  | completed => exact complete_params s
  | idle | entry | built | zeroed | cleared | stepped | rendered => rfl

theorem EngineCase.cause {s t : State} (h : EngineCase s t) (hs : s.lastErrCause.toNat ≤ 9) :
    t.lastErrCause.toNat ≤ 9 := by
  cases h with
  | advanced i hp hi u hu => exact hu.cause hs
  | drawn i hp hi u hu => exact hu.cause hs
  | aborted i hp hi u hu => exact hu.cause hs
  | completed =>
    rw [complete_frame]
    exact hs
  | idle | entry | built | zeroed | cleared | stepped | rendered => exact hs

theorem EngineCase.inv {s t : State} (h : EngineCase s t) (hs : Inv s) : Inv t where
  params := h.params ▸ hs.params
  storage := h.storage hs.storage
  status := h.reserved hs.status
  arrays := h.arraysValid hs
  engine := h.engineWf hs
  cause := h.cause hs.cause

/-! ## Reset and the step -/

/-- After the reset input the block is as after power-up, but for memory, the caches and the model's own
fields (R190, R191). -/
theorem inv_resetTurn (f : Option PortResponse) {s : State} (hs : Inv s) : Inv (resetTurn f s) where
  params := hs.params
  storage := storageWf_resetTurn f hs.storage
  status := (inv_initial hs.params).status
  arrays := (inv_initial hs.params).arrays
  engine := (inv_initial hs.params).engine
  cause := (inv_initial hs.params).cause

/-- The list of turns and the draws are no part of the invariant. -/
theorem inv_turns_draws {s : State} (hs : Inv s) (ts : List Turn) (d : Nat) :
    Inv { s with turns := ts, draws := d } := by
  refine KeepsEngine.inv (s := s) ?_ hs
  exact keepsEngine_of_eq rfl

theorem StepCase.inv {s t : State} (h : StepCase s t) (hs : Inv s) : Inv t := by
  cases h with
  | aside h => exact h.inv hs
  | stored h => exact h.inv hs
  | accepted txn hn i hd c hi hb ha ts r =>
    have hacc := (acceptFails_eq_nil_iff c { s with turns := ts }).1 ha
    refine KeepsEngine.inv ?_ (inv_accept (inv_turns_draws hs ts s.draws) hacc)
    exact keepsEngine_of_eq rfl
  | engine hn ts d h => exact h.inv (inv_turns_draws hs ts d)
  | reset f rest => exact inv_resetTurn f (inv_turns_draws hs rest s.draws)

/-- Settles O32, over the cases of one step: what happens beside the engine is invisible to it, acceptance starts
a phase whose premises are the checks it passed, and each phase hands on what the next one needs. -/
theorem everyStepKeepsInv : Obligations.EveryStepKeepsInv := fun _ _ hs h => (step_stepCase h).inv hs

/-! ## The bottom row -/

/-- The engine writes the grid in two loops: the clearing loop, and the diffusion loop, which stays above the
bottom row (R44, R110, R111). -/
theorem EngineCase.grid {s t : State} (h : EngineCase s t) (hs : Inv s) :
    t.grid = s.grid ∨ (∃ i, s.pos = .clear i ∧ t.grid = Memory.write s.grid i 0) ∨
      ∃ i v, i < s.upperCells ∧ t.grid = Memory.write s.grid i v := by
  have he := hs.engine
  cases h with
  | zeroed i hp => exact .inr (.inl ⟨i, hp, rfl⟩)
  | stepped i hp hi v => exact .inr (.inr ⟨i, v, hi, rfl⟩)
  | advanced i hp hi u hu => exact .inl hu.same_grid
  | drawn i hp hi u hu =>
    simp only [EngineWf, hp] at he
    exact .inl (hu.grid he.1)
  | aborted i hp hi u hu =>
    simp only [EngineWf, hp] at he
    exact .inl (hu.grid he.1)
  | completed =>
    rw [complete_frame]
    exact .inl rfl
  | idle | entry | built | cleared | rendered => exact .inl rfl

/-- Settles O40: a host write reaches the grid only on an idle block, and of the engine's loops only the clearing
loop reaches the bottom row. -/
theorem flameBedChangesOnlyAsStated : Obligations.FlameBedChangesOnlyAsStated := by
  intro s t k hs h hk hne
  cases step_stepCase h with
  | aside h => exact absurd (by rw [h.same_grid]) hne
  | stored h hb txn hn off w v hd => exact .inr (.inr ⟨hb, txn, off, w, v, hn, hd⟩)
  | accepted txn hn i hd c hi hb ha ts r =>
    exact absurd (congrArg (Memory.read · k) (accept_grid c { s with turns := ts })) hne
  | engine hn ts d h =>
    obtain hg | ⟨i, hp, hg⟩ | ⟨i, v, hi, hg⟩ := h.grid (inv_turns_draws hs ts d)
    · exact absurd (congrArg (Memory.read · k) hg) hne
    · obtain rfl : k = i := by
        by_contra hki
        exact hne ((congrArg (Memory.read · k) hg).trans (read_write_other _ _ _ _ hki))
      exact .inr (.inl ⟨hn, hp⟩)
    · have hki : k ≠ i := (hi.trans_le hk).ne'
      exact absurd ((congrArg (Memory.read · k) hg).trans (read_write_other _ _ _ _ hki)) hne
  | reset f rest hn => exact .inl ⟨f, rest, hn⟩

end Sys2Proof.Machine
end

section
/-! PROOF. The engine left alone leaves BUSY: every one of its turns brings the end of the command nearer
(10_state.md R47, 44_control_and_access.md R141, 70_reset_and_hazards.md R200; logs 3 and 5). -/

namespace Sys2Proof.Machine

open Sys2Proof.Claims

/-! ## Runs -/

theorem runsTo_zero (s : State) : runsTo 0 s s := rfl

theorem run_succ {M : Host.Core} {k : Nat} {s t : M.State} {o : Host.Outcome M.State M.Fault M.Refusal}
    (h : M.step s = .next t) (hr : M.run k t = o) : M.run (k + 1) s = o := by
  rw [Host.Core.run, h]
  exact hr

/-- A run of `k + 1` steps is one step and a run of `k`. -/
theorem runsTo_succ {k : Nat} {s t u : State} (h : step s = .next t) (hr : runsTo k t u) :
    runsTo (k + 1) s u := run_succ (M := Sys2Proof.core) h hr

/-! ## Turns to come -/

theorem gridWrite_turns (n i : Nat) (d : Word) (s : State) : (gridWrite n i d s).turns = s.turns := by
  obtain ⟨-, -, h⟩ | ⟨-, -, h⟩ | ⟨-, h⟩ := gridWrite_cases n i d s <;> rw [h]
  · rfl
  · rw [storeCells_frame]

theorem memWrite_turns (a : Word) (v : Half) (r : PortResponse) (s : State) :
    (memWrite a v r s).1.turns = s.turns := by
  obtain ⟨-, -, h⟩ | ⟨-, -, h⟩ | ⟨-, h | h | ⟨i, h⟩⟩ := memWrite_cases a v r s <;> rw [h]
  exact gridWrite_turns _ _ _ s

theorem blitTurn_turns (r : PortResponse) (i : Nat) (s : State) : (blitTurn r i s).turns = s.turns := by
  have hw := memWrite_turns (s.pixelAddr i) (s.pixelValue i) r s
  unfold blitTurn
  dsimp only
  split_ifs
  · exact hw
  · exact hw
  · rfl

theorem complete_turns (s : State) : (complete s).turns = s.turns := by rw [complete_frame]

/-- The engine does not touch what the outside world does next. -/
theorem engineTurn_turns (r : PortResponse) (s : State) : (engineTurn r s).turns = s.turns := by
  unfold engineTurn
  cases s.pos with
  | idle => rfl
  | pal i => simp only [palTurn]; split <;> rfl
  | clear i => simp only [clearTurn]; split <;> rfl
  | step i => simp only [stepTurn]; split_ifs <;> rfl
  | blit i => exact blitTurn_turns r i s
  | finish => exact complete_turns s

theorem autonomousTurn_turns (s : State) : (autonomousTurn s).turns = s.turns := by
  unfold autonomousTurn
  split
  · exact engineTurn_turns _ (s.advanceDraws 1)
  all_goals exact engineTurn_turns _ s

/-! ## The distance to the end of the command -/

/-- How many turns the engine still needs if it is left alone and no pixel write fails. -/
def turnsLeft (s : State) : Nat :=
  match s.pos with
  | .idle => 0
  | .finish => 1
  | .blit i => s.upperCells - i + 2
  | .step i => s.upperCells - i + 1 + if s.lat.op = .effect then s.upperCells + 2 else 1
  | .clear i => s.cells - i + 2
  | .pal i => 256 - i + 1 + if s.lat.op = .init then s.cells + 2 else 1

theorem turnsLeft_le (s : State) : turnsLeft s ≤ 2 * s.cells + 300 := by
  have := upperCells_le_cells s
  unfold turnsLeft
  cases s.pos with
  | idle | finish | blit i | clear i => dsimp only; omega
  | step i | pal i => dsimp only; split <;> omega

/-- Every turn of a command brings its end nearer, whatever the platform answers. -/
theorem EngineCase.turnsLeft_lt {s t : State} (h : EngineCase s t) (hrun : s.pos ≠ .idle) :
    turnsLeft t < turnsLeft s := by
  cases h with
  | idle hp => exact absurd hp hrun
  | entry i hp hi =>
    simp only [turnsLeft, hp, State.cells]
    omega
  | built i hp hi =>
    by_cases hop : s.lat.op = .init
    · simp only [turnsLeft, hp, if_pos hop, State.cells]
      omega
    · simp only [turnsLeft, hp, if_neg hop]
      omega
  | zeroed i hp hi =>
    simp only [turnsLeft, hp]
    exact Nat.add_lt_add_right (Nat.sub_succ_lt_self _ _ hi) 2
  | cleared i hp hi =>
    simp only [turnsLeft, hp]
    omega
  | stepped i hp hi v o =>
    simp only [turnsLeft, hp]
    exact Nat.add_lt_add_right (Nat.add_lt_add_right (Nat.sub_succ_lt_self _ _ hi) 1) _
  | advanced i hp hi u hu =>
    have hc : ({ u with pos := .blit 0 } : State).upperCells = s.upperCells := hu.upperCells
    by_cases hop : s.lat.op = .effect
    · simp only [turnsLeft, hp, if_pos hop, hc]
      omega
    · simp only [turnsLeft, hp, if_neg hop]
      omega
  | drawn i hp hi u hu =>
    have hc : ({ u with pos := .blit (i + 1) } : State).upperCells = s.upperCells := hu.upperCells
    simp only [turnsLeft, hp, hc]
    omega
  | aborted i hp hi u hu =>
    simp only [turnsLeft, hp, abort_pos]
    omega
  | rendered i hp hi =>
    simp only [turnsLeft, hp]
    omega
  | completed hp =>
    rw [complete_frame]
    simp only [turnsLeft, hp]
    omega

theorem autonomousTurn_turnsLeft {s : State} (hrun : s.pos ≠ .idle) :
    turnsLeft (autonomousTurn s) < turnsLeft s := by
  obtain ⟨d, h⟩ := autonomousTurn_case s
  exact h.turnsLeft_lt hrun

/-- Left alone, a block that meets the invariant is idle after at most `turnsLeft` turns. -/
theorem leaves_busy (s : State) (hs : Inv s) (ht : s.turns = []) :
    ∃ n u, n ≤ turnsLeft s ∧ runsTo n s u ∧ u.busy = false := by
  induction hm : turnsLeft s using Nat.strong_induction_on generalizing s with
  | _ m ih =>
    by_cases hp : s.pos = .idle
    · have he := hs.engine
      simp only [EngineWf, hp] at he
      exact ⟨0, s, Nat.zero_le _, runsTo_zero s, he⟩
    · have hlt := autonomousTurn_turnsLeft hp
      have hstep := step_nil ht
      obtain ⟨n, u, hn, hr, hu⟩ := ih _ (hm ▸ hlt) _ (everyStepKeepsInv s _ hs hstep)
        ((autonomousTurn_turns s).trans ht) rfl
      exact ⟨n + 1, u, by omega, runsTo_succ hstep hr, hu⟩

/-- Settles O36: induction on the turns the engine still needs. -/
theorem acceptedCommandLeavesBusy : Obligations.AcceptedCommandLeavesBusy := by
  intro s hs ht
  obtain ⟨n, u, hn, hr, hu⟩ := leaves_busy s hs ht
  exact ⟨n, u, hn.trans (turnsLeft_le s), hr, hu⟩

end Sys2Proof.Machine
end

section
/-! PROOF. The registers: what a read returns, what a write stores, the reserved offsets, and the
write-one-to-clear of STATUS against the engine's next turn (10_state.md R23 to R39, 44_control_and_access.md
R145). -/

namespace Sys2Proof.Machine

open Sys2Proof.Claims

/-! ## Words as numbers -/

theorem toNat_append_eq {n m : Nat} (x : BitVec n) (y : BitVec m) :
    (x ++ y).toNat = x.toNat * 2 ^ m + y.toNat := by
  rw [BitVec.toNat_append, ← Nat.shiftLeft_add_eq_or_of_lt y.isLt, Nat.shiftLeft_eq]

theorem geom_eq {s : State} (h : s.params.Valid) :
    s.geom = BitVec.ofNat 32 (0x10000 * s.params.gridH + s.params.gridW) := by
  obtain ⟨-, hw, -, hh, -⟩ := h
  apply BitVec.eq_of_toNat_eq
  rw [State.geom, toNat_append_eq]
  simp only [BitVec.toNat_ofNat]
  omega

theorem lastErr_eq (s : State) :
    s.lastErr = BitVec.ofNat 32 (0x100 * s.lastErrOp.toNat + s.lastErrCause.toNat) := by
  have hop := s.lastErrOp.isLt
  have hcause := s.lastErrCause.isLt
  apply BitVec.eq_of_toNat_eq
  rw [State.lastErr]
  simp only [toNat_append_eq, BitVec.toNat_ofNat]
  omega

/-- CONV_RGB of a colour (R37). -/
theorem convRgb_eq {s : State} {r g b : Byte} (h : s.convColor = (r, g, b)) :
    s.convRgb = BitVec.ofNat 32 (0x10000 * b.toNat + 0x100 * g.toNat + r.toNat) := by
  have hr := r.isLt
  have hg := g.isLt
  have hb := b.isLt
  apply BitVec.eq_of_toNat_eq
  rw [State.convRgb, h]
  simp only [toNat_append_eq, BitVec.toNat_ofNat]
  omega

/-- CONV_PIX of a colour (R38). -/
theorem convPix_eq {s : State} {r g b : Byte} (h : s.convColor = (r, g, b)) :
    s.convPix = BitVec.ofNat 32 (0x10000 * (swap16 (packRgb565 r g b)).toNat + (packRgb565 r g b).toNat) := by
  have hp := (packRgb565 r g b).isLt
  have hs := (swap16 (packRgb565 r g b)).isLt
  apply BitVec.eq_of_toNat_eq
  rw [State.convPix, h, swappedPixel]
  simp only [toNat_append_eq, BitVec.toNat_ofNat]
  omega

/-- The operands of the converter are the three bytes of CONV_HSL (R36). -/
theorem convColor_eq (s : State) :
    s.convColor = convertWith s.params.converter (BitVec.ofNat 8 s.convHsl.toNat)
      (BitVec.ofNat 8 (s.convHsl.toNat / 0x100)) (BitVec.ofNat 8 (s.convHsl.toNat / 0x10000)) := by
  simp only [State.convColor, State.hue, State.saturation, State.lightness, BitVec.extractLsb',
    Nat.shiftRight_eq_div_pow, pow_zero, Nat.div_one, Nat.reducePow]

/-- The low `n` bits of a word, the others 0. -/
theorem setWidth_extractLsb'_zero (v : Word) {n : Nat} (hn : n ≤ 32) :
    (v.extractLsb' 0 n).setWidth 32 = v &&& BitVec.ofNat 32 (2 ^ n - 1) := by
  have hpow : 2 ^ n ≤ 2 ^ 32 := Nat.pow_le_pow_right (by decide) hn
  have hpos : 0 < 2 ^ n := Nat.two_pow_pos n
  have hmod : v.toNat % 2 ^ n < 2 ^ n := Nat.mod_lt _ hpos
  apply BitVec.eq_of_toNat_eq
  rw [BitVec.toNat_and, BitVec.toNat_ofNat, Nat.mod_eq_of_lt (by omega), Nat.and_two_pow_sub_one_eq_mod,
    BitVec.toNat_setWidth, BitVec.extractLsb'_toNat, Nat.shiftRight_zero, Nat.mod_eq_of_lt (by omega)]

/-! ## Register accesses -/

theorem exec_rdGeom {s : State} {d : Word} (h : s.geom = d) :
    exec (.rdGeom .w32) s = .next { s with reply := .data d } := h ▸ rfl

theorem exec_rdIrqEn {s : State} {d : Word} (h : s.irqEn.setWidth 32 = d) :
    exec (.rdIrqEn .w32) s = .next { s with reply := .data d } := h ▸ rfl

theorem exec_rdDstDepth {s : State} {d : Word} (h : s.dstDepth.setWidth 32 = d) :
    exec (.rdDstDepth .w32) s = .next { s with reply := .data d } := h ▸ rfl

theorem exec_rdLastErr {s : State} {d : Word} (h : s.lastErr = d) :
    exec (.rdLastErr .w32) s = .next { s with reply := .data d } := h ▸ rfl

theorem exec_rdConvHsl {s : State} {d : Word} (h : s.convHsl.setWidth 32 = d) :
    exec (.rdConvHsl .w32) s = .next { s with reply := .data d } := h ▸ rfl

theorem exec_rdConvRgb {s : State} {d : Word} (h : s.convRgb = d) :
    exec (.rdConvRgb .w32) s = .next { s with reply := .data d } := h ▸ rfl

theorem exec_rdConvPix {s : State} {d : Word} (h : s.convPix = d) :
    exec (.rdConvPix .w32) s = .next { s with reply := .data d } := h ▸ rfl

theorem writeRegister_w32 (after : State → State) (s : State) :
    writeRegister .w32 after s = .next { after s with reply := .done } := rfl

/-- The reserved bits of STATUS in a read of it (R27). -/
theorem statusWf_reserved_bit {s : State} (h : StatusWf s) {b : Nat}
    (hb : (3 ≤ b ∧ b ≤ 7) ∨ (9 ≤ b ∧ b ≤ 15) ∨ 24 ≤ b) : s.status.getLsbD b = false := by
  by_cases hlt : b < 32
  · have := (statusWf_iff s).1 h b hlt
    by_contra hne
    have := this (Bool.eq_true_of_not_eq_false hne)
    omega
  · exact BitVec.getLsbD_of_ge _ _ (by omega)

/-- Settles O8: a read answers with the register as the model composes it, and each composition is the number
the rule gives. -/
theorem registerReadsReturnTheirValue : Obligations.RegisterReadsReturnTheirValue := by
  intro s hp
  refine ⟨rfl, ?geom, rfl, rfl, fun h => ⟨s.status, rfl, fun b => statusWf_reserved_bit h⟩, ?irqEn, rfl, rfl,
    rfl, ?depth, ?lastErr, rfl, ?convHsl, fun r g b h => ?conv⟩
  case geom => exact exec_rdGeom (geom_eq hp)
  case irqEn => exact exec_rdIrqEn (BitVec.ofNat_toNat _ _).symm
  case depth => exact exec_rdDstDepth (BitVec.ofNat_toNat _ _).symm
  case lastErr => exact exec_rdLastErr (lastErr_eq s)
  case convHsl => exact exec_rdConvHsl (BitVec.ofNat_toNat _ _).symm
  case conv =>
    have hc := (convColor_eq s).trans h
    exact ⟨exec_rdConvRgb (convRgb_eq hc), exec_rdConvPix (convPix_eq hc)⟩

/-- Settles O10: a write stores the bits the register has, and the read zero-extends them. -/
theorem writableRegistersReadBackTheirBits : Obligations.WritableRegistersReadBackTheirBits := by
  intro s v
  exact ⟨⟨_, rfl, rfl, exec_rdIrqEn (setWidth_extractLsb'_zero v (n := 2) (by decide))⟩,
    ⟨_, rfl, rfl, rfl⟩, ⟨_, rfl, rfl, rfl⟩, ⟨_, rfl, rfl, rfl⟩,
    ⟨_, rfl, rfl, exec_rdDstDepth (setWidth_extractLsb'_zero v (n := 8) (by decide))⟩,
    ⟨_, rfl, rfl, exec_rdConvHsl (setWidth_extractLsb'_zero v (n := 24) (by decide))⟩⟩

/-- Settles O9: a write to each of them is `writeRegister` with no effect. -/
theorem readOnlyRegistersIgnoreWrites : Obligations.ReadOnlyRegistersIgnoreWrites := by
  intro s v i
  have hid : writeRegister .w32 id s = .next { s with reply := .done } := writeRegister_w32 id s
  exact ⟨hid, hid, hid, hid, hid, hid, hid⟩

/-! ## Reserved offsets -/

/-- What the slave port answers at a reserved offset (R39). -/
def reservedReply : RsvAccess → Reply
  | .read => .data 0
  | .write _ => .done

theorem legalReserved_of_legalAccess {off : Nat} {w : Width} (h : legalAccess off w) :
    legalReserved off w = true := by
  obtain ⟨hoff, rfl, ha⟩ | ⟨hoff, rfl | ⟨rfl, ha⟩ | ⟨rfl, ha⟩⟩ := h
  · simp [legalReserved, hoff, legalWord, legalSized, ha]
  · simp [legalReserved, Nat.not_lt.2 hoff, legalSized]
  · simp [legalReserved, Nat.not_lt.2 hoff, legalSized, ha]
  · simp [legalReserved, Nat.not_lt.2 hoff, legalSized, ha]

theorem accessReserved_of_legal {off : Nat} {w : Width} (a : RsvAccess) (s : State)
    (h : legalAccess off w) : accessReserved off w a s = .next { s with reply := reservedReply a } := by
  have hl := legalReserved_of_legalAccess h
  cases a with
  | read => simp [accessReserved, answerRead, hl, reservedReply]
  | write v => simp [accessReserved, answerWrite, hl, reservedReply]

/-- A row at a reserved offset means an access to that offset. -/
theorem exec_of_reservedAt {i : Instr} {off : Nat} {w : Width} {a : RsvAccess}
    (h : reservedAt i = some (off, w, a)) (s : State) : exec i s = accessReserved off w a s := by
  cases i with
  | rsv0002C w a | rsv0003C w a | rsv00040 _ w a | rsv00080 _ w a | rsv00100 _ w a
  | rsv00200 _ w a | rsv00800 _ w a | rsv01000 _ w a | rsv02000 _ w a | rsv04000 _ w a
  | rsv08000 _ w a => cases h; rfl
  | _ => cases h

/-- Settles O12: every reserved row is `accessReserved` at its offset, which answers a legal access with 0 or
ignores it. -/
theorem reservedOffsetsReadZeroAndIgnoreWrites : Obligations.ReservedOffsetsReadZeroAndIgnoreWrites := by
  intro s i off w a hi hl
  rw [exec_of_reservedAt hi, accessReserved_of_legal a s hl]
  cases a <;> rfl

/-! ## STATUS written while the engine moves -/

/-- A grid window write sets E_ACC where the block is busy and the access touches a cell, and nothing else of
STATUS (R146, R166). -/
theorem gridWrite_status (n i : Nat) (d : Word) (s : State) :
    (gridWrite n i d s).status =
      s.status ||| if s.busy = true ∧ i < s.cells then BitVec.twoPow 32 22 else 0 := by
  obtain ⟨hb, hi, h⟩ | ⟨hb, hi, h⟩ | ⟨hb, h⟩ := gridWrite_cases n i d s <;> rw [h]
  · rw [if_pos ⟨hb, hi⟩]
    rfl
  · rw [if_neg (by omega)]
    exact BitVec.or_zero.symm
  · rw [if_neg (by simp [hb]), storeCells_frame]
    exact BitVec.or_zero.symm

theorem palTurn_status (i : Nat) (s : State) : (palTurn i s).status = s.status := by
  unfold palTurn
  split <;> rfl

theorem clearTurn_status (i : Nat) (s : State) : (clearTurn i s).status = s.status := by
  unfold clearTurn
  split <;> rfl

/-- The diffusion loop sets OVF as it ends, where a cell overflowed (R168). -/
theorem stepTurn_status (i : Nat) (s : State) :
    (stepTurn i s).status =
      s.status ||| if s.upperCells ≤ i ∧ s.ovfSeen = true then BitVec.twoPow 32 23 else 0 := by
  unfold stepTurn
  by_cases hi : i < s.upperCells
  · rw [if_pos hi, if_neg (by omega)]
    exact BitVec.or_zero.symm
  · rw [if_neg hi]
    cases ho : s.ovfSeen with
    | false => simp
    | true =>
      have hc : s.upperCells ≤ i ∧ true = true := ⟨by omega, rfl⟩
      rw [if_pos hc]
      rfl

/-- A bit of STATUS after an abort on a bus error: E_BUS is set, BUSY is clear (R135). -/
theorem flag_abort_raiseBus (op : BitVec 4) (a : Word) (u : State) {b : Nat} (hb : b < 32) :
    (abort (raiseBus op a u)).flag b = ((u.flag b || decide (b = 21)) && !decide (b = 0)) := by
  rw [flag_abort _ _ hb, flag_raiseBus _ _ _ _ hb]

section OtherStatus

variable (s : State) (x : Word) (ts : List Turn) (rp : Reply)

/-- `s` with another STATUS value, other turns to come and another answer. -/
def withStatus : State := { s with status := x, turns := ts, reply := rp }

variable {s x}

theorem gridWrite_withStatus (hx : x.getLsbD 0 = s.busy) (n i : Nat) (d : Word) :
    ∃ m, (gridWrite n i d s).status = s.status ||| m ∧
      (gridWrite n i d (withStatus s x ts rp)).status = x ||| m := by
  have hbusy : (withStatus s x ts rp).busy = s.busy := hx
  have h := gridWrite_status n i d (withStatus s x ts rp)
  rw [hbusy] at h
  exact ⟨_, gridWrite_status n i d s, h⟩

/-- Where BUSY is the same, a pixel write is answered the same and sets the same bits of STATUS. -/
theorem memWrite_withStatus (hx : x.getLsbD 0 = s.busy) (a : Word) (v : Half) (r : PortResponse) :
    ∃ m ok u u', memWrite a v r s = (u, ok) ∧ memWrite a v r (withStatus s x ts rp) = (u', ok) ∧
      u.status = s.status ||| m ∧ u'.status = x ||| m := by
  have hw : (withStatus s x ts rp).inWindow a = s.inWindow a := rfl
  have hp : (withStatus s x ts rp).params = s.params := rfl
  cases r with
  | error =>
    simp only [memWrite, hw]
    split_ifs
    · exact ⟨0, _, _, _, rfl, rfl, BitVec.or_zero.symm, BitVec.or_zero.symm⟩
    · exact ⟨0, _, _, _, rfl, rfl, BitVec.or_zero.symm, BitVec.or_zero.symm⟩
  | ok =>
    simp only [memWrite, ownWindowWrite, hw, hp]
    split_ifs
    · exact ⟨0, _, _, _, rfl, rfl, BitVec.or_zero.symm, BitVec.or_zero.symm⟩
    · exact ⟨0, _, _, _, rfl, rfl, BitVec.or_zero.symm, BitVec.or_zero.symm⟩
    · obtain ⟨m, h, h'⟩ := gridWrite_withStatus ts rp hx 2 (a.toNat - s.params.fireBase.toNat - 0x10000)
        (v.setWidth 32)
      exact ⟨m, _, _, _, rfl, rfl, h, h'⟩
    · exact ⟨0, _, _, _, rfl, rfl, BitVec.or_zero.symm, BitVec.or_zero.symm⟩

/-- A pixel turn keeps and sets the same bits of STATUS. -/
theorem blitTurn_withStatus (hx : x.getLsbD 0 = s.busy) (r : PortResponse) (i : Nat) {b : Nat} (hb : b < 32)
    (hle : s.flag b = true → x.getLsbD b = true) (h : (blitTurn r i s).flag b = true) :
    (blitTurn r i (withStatus s x ts rp)).flag b = true := by
  by_cases hi : i < s.upperCells
  · obtain ⟨m, ok, u, u', hu, hu', hs, hs'⟩ := memWrite_withStatus ts rp hx (s.pixelAddr i) (s.pixelValue i) r
    have hmono : u.flag b = true → u'.flag b = true := by
      simp only [State.flag, hs, hs', BitVec.getLsbD_or, Bool.or_eq_true]
      exact Or.imp_left hle
    cases ok with
    | true =>
      rw [blitTurn_of_ok (s := withStatus s x ts rp) hi hu']
      rw [blitTurn_of_ok hi hu] at h
      exact hmono h
    | false =>
      rw [blitTurn_of_error (s := withStatus s x ts rp) hi hu', flag_abort_raiseBus _ _ _ hb]
      rw [blitTurn_of_error hi hu, flag_abort_raiseBus _ _ _ hb] at h
      simp only [Bool.and_eq_true, Bool.or_eq_true] at h ⊢
      exact h.imp_left (Or.imp_left hmono)
  · have hs : blitTurn r i s = { s with pos := .finish } := if_neg hi
    have hs' : blitTurn r i (withStatus s x ts rp) = { withStatus s x ts rp with pos := .finish } := if_neg hi
    rw [hs] at h
    rw [hs']
    exact hle h

/-- Where BUSY is the same, an engine turn from a STATUS with more bits set leaves a STATUS with more bits
set. -/
theorem engineTurn_withStatus (hx : x.getLsbD 0 = s.busy) (r : PortResponse) {b : Nat} (hb : b < 32)
    (hle : s.flag b = true → x.getLsbD b = true) (h : (engineTurn r s).flag b = true) :
    (engineTurn r (withStatus s x ts rp)).flag b = true := by
  have hpos : (withStatus s x ts rp).pos = s.pos := rfl
  unfold engineTurn at h ⊢
  rw [hpos]
  cases hp : s.pos with
  | idle =>
    simp only [hp] at h
    exact hle h
  | pal i =>
    simp only [hp, State.flag, palTurn_status] at h ⊢
    exact hle h
  | clear i =>
    simp only [hp, State.flag, clearTurn_status] at h ⊢
    exact hle h
  | step i =>
    simp only [hp, State.flag, stepTurn_status, BitVec.getLsbD_or, Bool.or_eq_true] at h ⊢
    exact h.imp_left hle
  | blit i =>
    simp only [hp] at h
    exact blitTurn_withStatus ts rp hx r i hb hle h
  | finish =>
    simp only [hp, flag_complete _ b hb, Bool.or_eq_true, Bool.and_eq_true] at h ⊢
    exact h.imp_left (And.imp_left (Or.imp_left (Or.imp_left hle)))

end OtherStatus

/-- A write of `v` clears the W1C bits of `v` and keeps the others (R28). -/
theorem statusAfterWrite_bit_eq (status v : Word) {b : Nat} (hb : b < 32) :
    (statusAfterWrite status v).getLsbD b =
      if (b = 8 ∨ (16 ≤ b ∧ b ≤ 23)) ∧ v.getLsbD b = true then false else status.getLsbD b := by
  rw [statusAfterWrite_bit _ _ _ hb, ← statusW1C_bit b hb]
  have hW : statusW1C.getLsbD b = true ↔ b = 8 ∨ (16 ≤ b ∧ b ≤ 23) := by
    rw [statusW1C_bit b hb]
    simp
  simp only [← hW]
  cases v.getLsbD b <;> cases statusW1C.getLsbD b <;> simp

/-- A host write clears no more than the whole W1C mask would. -/
theorem statusAfterWrite_ge (status v : Word) (b : Nat) (h : (status &&& ~~~statusW1C).getLsbD b = true) :
    (statusAfterWrite status v).getLsbD b = true := by
  simp only [statusAfterWrite, BitVec.getLsbD_and, BitVec.getLsbD_not, Bool.and_eq_true,
    Bool.not_eq_true', Bool.and_eq_false_iff] at h ⊢
  exact ⟨h.1, h.2.1, .inr h.2.2⟩

/-! ### The turns that set a bit -/

theorem engineTurn_finish {s : State} (r : PortResponse) (h : s.pos = .finish) :
    engineTurn r s = complete s := by simp only [engineTurn, h]

theorem engineTurn_step {s : State} {i : Nat} (r : PortResponse) (h : s.pos = .step i) :
    engineTurn r s = stepTurn i s := by simp only [engineTurn, h]

/-- Completion sets DONE (R141). -/
theorem flag_done_of_finish {s : State} (r : PortResponse) (h : s.pos = .finish) :
    (engineTurn r s).flag 8 = true := by
  rw [engineTurn_finish r h, flag_complete _ 8 (by decide)]
  simp

/-- The end of the diffusion loop sets OVF (R168). -/
theorem flag_ovf_of_step {s : State} {i : Nat} (r : PortResponse) (h : s.pos = .step i)
    (hi : s.upperCells ≤ i) (ho : s.ovfSeen = true) : (engineTurn r s).flag 23 = true := by
  rw [engineTurn_step r h, State.flag, stepTurn_status, if_pos ⟨hi, ho⟩]
  simp

/-- A pixel write outside the window that is answered ERROR sets E_BUS (R135). -/
theorem flag_bus_of_blit {s : State} {i : Nat} (h : s.pos = .blit i) (hi : i < s.upperCells)
    (hw : s.inWindow (s.pixelAddr i) = false) : (engineTurn .error s).flag 21 = true := by
  obtain ⟨-, h', -⟩ | ⟨-, -, hm⟩ | ⟨h', -⟩ := memWrite_cases (s.pixelAddr i) (s.pixelValue i) .error s
  · cases h'
  · rw [engineTurn_blit _ h, blitTurn_of_error hi hm, flag_abort_raiseBus _ _ _ (by decide)]
    simp
  · exact absurd (hw.symm.trans h') (by decide)

/-- A STATUS write and an engine turn, the two turns of the second clause of R28. -/
theorem runsTo_wrStatus_engine {s : State} {v : Word} {r : PortResponse}
    (h : s.turns = [.host (.mmio 0b1_00000000000001100 .w32 v), .engine r]) :
    runsTo 2 s (engineTurn r (withStatus s (statusAfterWrite s.status v) [] .done)) := by
  have h1 : step s = .next (withStatus s (statusAfterWrite s.status v) [.engine r] .done) :=
    (step_cons h).trans rfl
  exact runsTo_succ h1 (runsTo_succ (step_engine rfl) (runsTo_zero _))

/-- Settles O11: the write is bitwise, and the engine's turn after it sets its bits whatever the write left,
since it reads no bit of STATUS but BUSY, which the write keeps. -/
theorem statusWriteOneToClear : Obligations.StatusWriteOneToClear := by
  refine ⟨fun s v => ⟨_, rfl, rfl, fun b => statusAfterWrite_bit_eq s.status v⟩, fun s v r ht =>
    ⟨_, runsTo_wrStatus_engine ht, fun hp => ?done, fun i hp hi ho => ?ovf, fun i hp hi hw hr => ?bus,
      fun b h => ?any⟩⟩
  case done => exact flag_done_of_finish (s := withStatus s _ [] .done) r hp
  case ovf => exact flag_ovf_of_step (s := withStatus s _ [] .done) r hp hi ho
  case bus =>
    subst hr
    exact flag_bus_of_blit (s := withStatus s _ [] .done) hp hi hw
  case any =>
    have hb : b < 32 := BitVec.lt_of_getLsbD h
    have hbusy : (statusAfterWrite s.status v).getLsbD 0 = (s.status &&& ~~~statusW1C).getLsbD 0 := by
      rw [statusAfterWrite_bit_eq _ _ (by decide)]
      simp [statusW1C]
    exact engineTurn_withStatus (s := { s with status := s.status &&& ~~~statusW1C }) [] .done hbusy r hb
      (statusAfterWrite_ge s.status v b) h

end Sys2Proof.Machine
end

section
/-! PROOF. The reset input: the registers take their reset values, and memory changes at most by the one pixel
already issued (10_state.md R45, 70_reset_and_hazards.md R190, R191; logs 11, 13, 21, 28, 29). -/

namespace Sys2Proof.Machine

/-! ## The pixel in flight -/

theorem gridWrite_memory (n i : Nat) (d : Word) (s : State) :
    (gridWrite n i d s).mem = s.mem ∧ (gridWrite n i d s).stale = s.stale := by
  obtain ⟨-, -, h⟩ | ⟨-, -, h⟩ | ⟨-, h⟩ := gridWrite_cases n i d s <;> rw [h]
  · exact ⟨rfl, rfl⟩
  · exact ⟨rfl, rfl⟩
  · rw [storeCells_frame]
    exact ⟨rfl, rfl⟩

/-- What a pixel write leaves of system memory: a stale byte stays stale, and only the two bytes of the pixel
change or become stale (R56, R63). -/
structure PixelReach (a : Word) (s u : State) : Prop where
  stale : ∀ b ∈ s.stale, b ∈ u.stale
  only : ∀ b, Memory.read u.mem b ≠ Memory.read s.mem b ∨ (b ∈ u.stale ∧ b ∉ s.stale) →
    b = a.toNat ∨ b = (a + 1).toNat

theorem pixelReach_of_eq {a : Word} {s u : State} (hm : u.mem = s.mem) (hl : u.stale = s.stale) :
    PixelReach a s u where
  stale := by simp [hl]
  only := by simp [hm, hl]

/-- Where the write reaches memory, its bytes are marked and no others are touched. -/
theorem pixelReach_of_mark {a : Word} {s u : State}
    (hm : ∀ b, b ≠ a.toNat → b ≠ (a + 1).toNat → Memory.read u.mem b = Memory.read s.mem b)
    (hl : u.stale = markPixel s.stale a) : PixelReach a s u where
  stale b hb := by simp [hl, hb]
  only b hb := by
    by_contra hne
    rw [not_or] at hne
    obtain hb | ⟨hb, hn⟩ := hb
    · exact hb (hm b hne.1 hne.2)
    · rw [hl, mem_markPixel] at hb
      tauto

theorem memWrite_reach (a : Word) (v : Half) (r : PortResponse) (s : State) :
    PixelReach a s (memWrite a v r s).1 := by
  obtain ⟨-, -, h⟩ | ⟨-, -, h⟩ | ⟨-, h | h | ⟨i, h⟩⟩ := memWrite_cases a v r s <;> rw [h]
  · exact pixelReach_of_mark (fun b h1 h2 => by rw [read_storePixel, if_neg h2, if_neg h1]) rfl
  · exact pixelReach_of_mark (fun b h1 h2 => by rw [read_forgetPixel, if_neg h2, if_neg h1]) rfl
  · exact pixelReach_of_eq rfl rfl
  · exact pixelReach_of_eq rfl rfl
  · obtain ⟨hm, hl⟩ := gridWrite_memory 2 i (v.setWidth 32) s
    exact pixelReach_of_eq hm hl

/-- The pixel in flight when reset is asserted: there is none, or it is the one at the engine's position. -/
theorem landInFlight_reach (f : Option PortResponse) (s : State) :
    landInFlight f s = s ∨
      ∃ i, s.pos = .blit i ∧ i < s.upperCells ∧ PixelReach (s.pixelAddr i) s (landInFlight f s) := by
  obtain h | ⟨r, i, -, hp, hi, h⟩ := landInFlight_cases f s
  · exact .inl h
  · exact .inr ⟨i, hp, hi, h ▸ memWrite_reach _ _ r s⟩

/-- A byte that was stale is so after reset. -/
theorem landInFlight_stale (f : Option PortResponse) (s : State) {b : Nat} (hb : b ∈ s.stale) :
    b ∈ (landInFlight f s).stale := by
  obtain h | ⟨i, -, -, h⟩ := landInFlight_reach f s
  · rwa [h]
  · exact h.stale b hb

/-- A byte that reset changes or makes stale belongs to the pixel in flight (R191). -/
theorem landInFlight_only (f : Option PortResponse) (s : State) {b : Nat}
    (hb : Memory.read (landInFlight f s).mem b ≠ Memory.read s.mem b ∨
      (b ∈ (landInFlight f s).stale ∧ b ∉ s.stale)) :
    ∃ i, s.pos = .blit i ∧ i < s.upperCells ∧
      (b = (s.pixelAddr i).toNat ∨ b = (s.pixelAddr i + 1).toNat) := by
  obtain h | ⟨i, hp, hi, h⟩ := landInFlight_reach f s
  · rw [h] at hb
    exact absurd hb (by simp)
  · exact ⟨i, hp, hi, h.only b hb⟩

/-! ## The registers after reset -/

/-- After reset CONV_HSL is 0, so the converter shows its colour of (0, 0, 0) (R37; log 29). -/
theorem convColor_resetTurn (f : Option PortResponse) (s : State) :
    (resetTurn f s).convColor = convertWith s.params.converter 0 0 0 := by
  have hz : (resetTurn f s).convHsl = 0 := rfl
  have hp : (resetTurn f s).params = s.params := rfl
  rw [convColor_eq, hz, hp]
  simp

theorem lastErr_resetTurn (f : Option PortResponse) (s : State) : (resetTurn f s).lastErr = 0 := by
  have hop : (resetTurn f s).lastErrOp = 0 := rfl
  have hcause : (resetTurn f s).lastErrCause = 0 := rfl
  simp [lastErr_eq, hop, hcause]

/-- After reset nothing is enabled, so the interrupt output is low (R170). -/
theorem irq_resetTurn (f : Option PortResponse) (s : State) : (resetTurn f s).irq = false := by
  have hz : (resetTurn f s).irqEn = 0 := rfl
  simp [State.irq, hz]

/-- The reference converter's colour of (0, 0, 0) is black. -/
theorem conv_of_black {s : State} (h : s.convColor = (0, 0, 0)) : s.convRgb = 0 ∧ s.convPix = 0 := by
  rw [convRgb_eq h, convPix_eq h]
  decide

/-- Settles O56: the fields of `resetTurn` are those of `State.initial`, and what it keeps of memory is what the
pixel in flight leaves. -/
theorem resetInputRestoresTheRegisters : Obligations.ResetInputRestoresTheRegisters := by
  intro s f rest ht
  refine ⟨resetTurn f { s with turns := rest }, step_cons ht, rfl, rfl, rfl, rfl, rfl, rfl,
    lastErr_resetTurn f _, rfl, rfl, rfl, irq_resetTurn f _, rfl, rfl, fun href => ?reference,
    fun r g b hc => ?converter, fun _ => rfl, fun _ => rfl, fun hf => ?none, rfl,
    fun b => landInFlight_stale f { s with turns := rest },
    fun b => landInFlight_only f { s with turns := rest }⟩
  case reference =>
    apply conv_of_black
    rw [convColor_resetTurn]
    simp only [href]
    decide
  case converter =>
    have hcolor := (convColor_resetTurn f { s with turns := rest }).trans hc
    exact ⟨convRgb_eq hcolor, convPix_eq hcolor⟩
  case none =>
    subst hf
    exact ⟨rfl, rfl⟩

end Sys2Proof.Machine
end

section
/-! PROOF. Host accesses: the step runs the decoded transaction, the slave port answers an illegal access with
an error response whatever its key (20_memory.md R55, 60_exceptions.md R172), and the grid window's bytes beyond
the cells are reserved (20_memory.md R51; log 10). -/

namespace Sys2Proof.Machine

open Sys2Proof.Claims

/-! ## A host transaction is the next turn -/

theorem step_host {s : State} {txn : Txn} {rest : List Turn} (h : s.turns = .host txn :: rest) :
    step s = hostTurn txn { s with turns := rest } := step_cons h

theorem hostTurn_of_decode {txn : Txn} {i : Instr} (h : decode txn = .ok i) (s : State) :
    hostTurn txn s = exec i s := by
  simp only [hostTurn, h]

/-- Settles O1: the turn is taken off the list and decoded. -/
theorem stepRunsTheDecodedOperation : Obligations.StepRunsTheDecodedOperation :=
  fun _ _ _ _ ht hd _ => (step_host ht).trans (hostTurn_of_decode hd _)

/-! ## Legal accesses -/

/-- The check of the reserved offsets is R55's rule at every window offset. -/
theorem legalReserved_iff (off : Nat) (w : Width) : legalReserved off w = true ↔ legalAccess off w := by
  refine ⟨fun h => ?_, legalReserved_of_legalAccess⟩
  by_cases hoff : off < 0x800
  · simp only [legalReserved, hoff, if_true, Bool.and_eq_true, legalWord, decide_eq_true_eq] at h
    obtain ⟨rfl, ha⟩ := h
    exact .inl ⟨hoff, rfl, by simpa [legalSized] using ha⟩
  · rw [legalReserved, if_neg hoff] at h
    refine .inr ⟨by omega, ?_⟩
    cases w with
    | w8 => exact .inl rfl
    | w16 => exact .inr (.inl ⟨rfl, by simpa [legalSized] using h⟩)
    | w32 => exact .inr (.inr ⟨rfl, by simpa [legalSized] using h⟩)
    | other n => cases h

/-- At the aligned offsets below 0x800 only the width is left to check. -/
theorem legalWord_iff {off : Nat} (w : Width) (hoff : off < 0x800) (ha : off % 4 = 0) :
    legalWord w = true ↔ legalAccess off w := by
  rw [← legalReserved_iff, legalReserved, if_pos hoff, Bool.and_eq_true, iff_self_and]
  intro hw
  obtain rfl : w = .w32 := by simpa [legalWord] using hw
  simpa [legalSized] using ha

/-- The grid window starts at an aligned offset, so its own offsets decide the alignment. -/
theorem legalSized_iff (off : Nat) (w : Width) :
    legalSized off w = true ↔ legalAccess (0x10000 + off) w := by
  rw [← legalReserved_iff, legalReserved, if_neg (by omega)]
  cases w with
  | w8 | other n => rfl
  | w16 | w32 =>
    simp only [legalSized, decide_eq_true_eq]
    omega

/-! ## The slave port's answer -/

/-- The outcome `o` of an access of width `w` at window offset `off` is as R55 has it: the error response and no
other change where the access is illegal, another answer where it is legal. -/
def AnswersAccess (off : Nat) (w : Width) (s : State) (o : Host.Outcome State Fault Refusal) : Prop :=
  (¬ legalAccess off w → o = .next { s with reply := .error }) ∧
    (legalAccess off w → ∃ t, o = .next t ∧ t.reply ≠ .error)

section Answers

variable {legal : Bool} {off : Nat} {w : Width}

theorem answerRead_access (hl : legal = true ↔ legalAccess off w) (value : State → Word)
    (after : State → State) (s : State) : AnswersAccess off w s (answerRead legal value after s) := by
  unfold AnswersAccess answerRead
  rw [← hl]
  cases legal <;> simp

theorem answerWrite_access (hl : legal = true ↔ legalAccess off w) (after : State → State) (s : State) :
    AnswersAccess off w s (answerWrite legal after s) := by
  unfold AnswersAccess answerWrite
  rw [← hl]
  cases legal <;> simp

/-- A read of a register or of a palette entry. -/
theorem readWord_access (hoff : off < 0x800 ∧ off % 4 = 0) (value : State → Word) (after : State → State)
    (s : State) : AnswersAccess off w s (answerRead (legalWord w) value after s) :=
  answerRead_access (legalWord_iff w hoff.1 hoff.2) value after s

/-- A write to a register or to a palette entry. -/
theorem writeWord_access (hoff : off < 0x800 ∧ off % 4 = 0) (after : State → State) (s : State) :
    AnswersAccess off w s (answerWrite (legalWord w) after s) :=
  answerWrite_access (legalWord_iff w hoff.1 hoff.2) after s

theorem accessReserved_access (off : Nat) (w : Width) (a : RsvAccess) (s : State) :
    AnswersAccess off w s (accessReserved off w a s) := by
  have hl := legalReserved_iff off w
  cases a with
  | read => exact answerRead_access hl (fun _ => 0) id s
  | write v => exact answerWrite_access hl id s

end Answers

theorem paletteOffset_aligned (i : Byte) : 0x400 + 4 * i.toNat < 0x800 ∧ (0x400 + 4 * i.toNat) % 4 = 0 := by
  omega

/-- A command is a legal 32-bit write to CMD, accepted or refused (R70; log 26). -/
theorem answerCommand_access (c : Command) (s : State) : AnswersAccess 0x008 .w32 s (answerCommand c s) :=
  ⟨fun h => absurd (.inl ⟨by decide, rfl, rfl⟩) h, fun _ => ⟨_, rfl, Reply.noConfusion⟩⟩

/-! ## The offset of an instruction -/

/-- The window offset each row accesses (R23, R50, R70). -/
def busOffset : Instr → Nat
  | .nop | .init | .clear | .buildPal | .step | .render | .effect => 0x008
  | .rdId _ | .wrId _ _ => 0x000
  | .rdGeom _ | .wrGeom _ _ => 0x004
  | .rdCmd _ | .wrCmd _ _ => 0x008
  | .rdStatus _ | .wrStatus _ _ => 0x00C
  | .rdIrqEn _ | .wrIrqEn _ _ => 0x010
  | .rdParam _ | .wrParam _ _ => 0x014
  | .rdDstBase _ | .wrDstBase _ _ => 0x018
  | .rdDstPitch _ | .wrDstPitch _ _ => 0x01C
  | .rdDstDepth _ | .wrDstDepth _ _ => 0x020
  | .rdLastErr _ | .wrLastErr _ _ => 0x024
  | .rdFaultAddr _ | .wrFaultAddr _ _ => 0x028
  | .rsv0002C _ _ => 0x02C
  | .rdConvHsl _ | .conv _ _ => 0x030
  | .rdConvRgb _ | .wrConvRgb _ _ => 0x034
  | .rdConvPix _ | .wrConvPix _ _ => 0x038
  | .rsv0003C _ _ => 0x03C
  | .rsv00040 off _ _ => 0x00040 + off.toNat
  | .rsv00080 off _ _ => 0x00080 + off.toNat
  | .rsv00100 off _ _ => 0x00100 + off.toNat
  | .rsv00200 off _ _ => 0x00200 + off.toNat
  | .rdPal i _ | .wrPal i _ _ => 0x400 + 4 * i.toNat
  | .rsv00800 off _ _ => 0x00800 + off.toNat
  | .rsv01000 off _ _ => 0x01000 + off.toNat
  | .rsv02000 off _ _ => 0x02000 + off.toNat
  | .rsv04000 off _ _ => 0x04000 + off.toNat
  | .rsv08000 off _ _ => 0x08000 + off.toNat
  | .rdGrid off _ | .wrGrid off _ _ => 0x10000 + off.toNat

/-- Every row answers an access at its offset as R55 has it. -/
theorem exec_access (i : Instr) (s : State) : AnswersAccess (busOffset i) i.width s (exec i s) := by
  cases i with
  | nop | init | clear | buildPal | step | render | effect => exact answerCommand_access _ s
  | rdId w | rdGeom w | rdCmd w | rdStatus w | rdIrqEn w | rdParam w | rdDstBase w | rdDstPitch w
  | rdDstDepth w | rdLastErr w | rdFaultAddr w | rdConvHsl w | rdConvRgb w | rdConvPix w =>
    apply readWord_access
    simp [busOffset]
  | wrId w | wrGeom w | wrCmd w | wrStatus w | wrIrqEn w | wrParam w | wrDstBase w | wrDstPitch w
  | wrDstDepth w | wrLastErr w | wrFaultAddr w | conv w | wrConvRgb w | wrConvPix w =>
    apply writeWord_access
    simp [busOffset]
  | rdPal i w => exact readWord_access (paletteOffset_aligned i) _ _ s
  | wrPal i w => exact writeWord_access (paletteOffset_aligned i) _ s
  | rdGrid off w => exact answerRead_access (legalSized_iff off.toNat w) _ _ s
  | wrGrid off w => exact answerWrite_access (legalSized_iff off.toNat w) _ s
  | rsv0002C w a | rsv0003C w a | rsv00040 _ w a | rsv00080 _ w a | rsv00100 _ w a
  | rsv00200 _ w a | rsv00800 _ w a | rsv01000 _ w a | rsv02000 _ w a | rsv04000 _ w a
  | rsv08000 _ w a => exact accessReserved_access _ w a s

/-! ## The offset of a key -/

/-- What R74 says of the decoding of a key: a row carries the offset of the key's bits 16:0 and the access its
width; a key without a row is a misaligned one below 0x800 (log 16). -/
def FollowsKey (key : BitVec 18) (w : Width) : Except DecodeError Instr → Prop
  | .ok i => busOffset i = key.toNat % 0x20000 ∧ i.width = w
  | .error e => e = .noRow key ∧ key.toNat % 0x20000 < 0x800 ∧ key.toNat % 4 ≠ 0

/-- The decoder tests the bits of the key one after the other. -/
theorem followsKey_bit {key : BitVec 18} {w : Width} {k : Nat} {x y : Except DecodeError Instr}
    (hx : key.toNat / 2 ^ k % 2 = 1 → FollowsKey key w x)
    (hy : key.toNat / 2 ^ k % 2 ≠ 1 → FollowsKey key w y) :
    FollowsKey key w (if key.getLsbD k then x else y) := by
  have hk : key.getLsbD k = true ↔ key.toNat / 2 ^ k % 2 = 1 := by
    rw [BitVec.getLsbD, Nat.testBit_eq_decide_div_mod_eq, decide_eq_true_eq]
  split
  · exact hx (hk.1 ‹_›)
  · exact hy (mt hk.2 ‹_›)

theorem decodeRegister_followsKey {key : BitVec 18} (h : key.toNat % 0x20000 < 0x40) (b : Bool) (w : Width)
    (v : Word) (a : RsvAccess) : FollowsKey key w (decodeRegister key b w v a) := by
  have hoff : (key.extractLsb' 0 6).toNat = key.toNat % 0x20000 := by simp; omega
  unfold decodeRegister
  rw [hoff]
  split
  case h_17 =>
    simp only [imp_false] at *
    exact ⟨rfl, by omega, by omega⟩
  all_goals cases b <;> exact ⟨Eq.symm ‹_›, rfl⟩

/-- The palette window: the index is bits 9:2 of the offset, and bits 1:0 are 0 (R148; log 25). -/
theorem decodePalette_followsKey {key : BitVec 18} (h : key.toNat % 0x20000 / 0x400 = 1) (b : Bool) (w : Width)
    (v : Word) :
    FollowsKey key w (if key.extractLsb' 0 2 = 0 then
      .ok (if b then .wrPal (key.extractLsb' 2 8) w v else .rdPal (key.extractLsb' 2 8) w)
      else .error (.noRow key)) := by
  have hlow : key.extractLsb' 0 2 = 0 ↔ key.toNat % 4 = 0 := by simp [← BitVec.toNat_inj]
  have hindex : (key.extractLsb' 2 8).toNat = key.toNat / 4 % 0x100 := by
    simp [Nat.shiftRight_eq_div_pow]
  split
  · rename_i hz
    rw [hlow] at hz
    have hoff : 0x400 + 4 * (key.extractLsb' 2 8).toNat = key.toNat % 0x20000 := by rw [hindex]; omega
    cases b <;> exact ⟨hoff, rfl⟩
  · rename_i hz
    rw [hlow] at hz
    exact ⟨rfl, by omega, hz⟩

theorem decodeMmio_followsKey (key : BitVec 18) (w : Width) (v : Word) :
    FollowsKey key w (decodeMmio key w v) := by
  refine followsKey_bit (fun _ => ?grid) fun _ => followsKey_bit (fun _ => ?rsv08000) fun _ =>
    followsKey_bit (fun _ => ?rsv04000) fun _ => followsKey_bit (fun _ => ?rsv02000) fun _ =>
    followsKey_bit (fun _ => ?rsv01000) fun _ => followsKey_bit (fun _ => ?rsv00800) fun _ =>
    followsKey_bit (fun _ => ?palette) fun _ => followsKey_bit (fun _ => ?rsv00200) fun _ =>
    followsKey_bit (fun _ => ?rsv00100) fun _ => followsKey_bit (fun _ => ?rsv00080) fun _ =>
    followsKey_bit (fun _ => ?rsv00040) fun _ => ?register
  case grid => cases key.getLsbD 17 <;> exact ⟨by simp [busOffset]; omega, rfl⟩
  case palette => exact decodePalette_followsKey (by omega) _ w v
  case register => exact decodeRegister_followsKey (by omega) _ w v _
  all_goals exact ⟨by simp [busOffset]; omega, rfl⟩

theorem not_legalAccess_of_misaligned {off : Nat} {w : Width} (hoff : off < 0x800) (ha : off % 4 ≠ 0) :
    ¬ legalAccess off w := by
  rintro (⟨-, -, h⟩ | ⟨h, -⟩) <;> omega

/-- What the slave port answers to an access at any key (R55). -/
theorem hostTurn_access (key : BitVec 18) (w : Width) (v : Word) (s : State) :
    AnswersAccess (key.toNat % 0x20000) w s (hostTurn (.mmio key w v) s) := by
  have hkey := decodeMmio_followsKey key w v
  cases hd : decodeMmio key w v with
  | ok i =>
    rw [hd] at hkey
    obtain ⟨hoff, hw⟩ := hkey
    rw [hostTurn_of_decode (txn := .mmio key w v) hd, ← hoff, ← hw]
    exact exec_access i s
  | error e =>
    rw [hd] at hkey
    obtain ⟨rfl, hoff, ha⟩ := hkey
    have hturn : hostTurn (.mmio key w v) s = .next { s with reply := .error } := by
      simp only [hostTurn, decode, hd]
    exact ⟨fun _ => hturn, fun hl => absurd hl (not_legalAccess_of_misaligned hoff (by omega))⟩

/-- Settles O13: every row checks R55 at its own offset, and a key without a row is misaligned. -/
theorem illegalAccessGetsAnErrorResponse : Obligations.IllegalAccessGetsAnErrorResponse := by
  intro key w v s rest ht
  rw [step_host ht]
  exact hostTurn_access key w v { s with turns := rest }

/-! ## Beyond the cells -/

theorem legalSized_of_gridAccess {i n : Nat} {w : Width} (h : gridAccess i n w) : legalSized i w = true := by
  obtain ⟨rfl, -⟩ | ⟨rfl, -, ha⟩ | ⟨rfl, -, ha⟩ := h
  · rfl
  · simpa [legalSized] using ha
  · simpa [legalSized] using ha

section Beyond

variable {s : State} {i : Nat} (hi : s.cells ≤ i)
include hi

theorem storeCells_beyond (n k : Nat) (d : Word) : storeCells n k i d s = s := by
  induction n generalizing k i with
  | zero => rfl
  | succ n ih =>
    rw [storeCells, if_neg (by omega)]
    exact ih (by omega) (k + 1)

/-- A grid write beyond the cells is ignored, busy or not (R51). -/
theorem gridWrite_beyond (n : Nat) (d : Word) : gridWrite n i d s = s := by
  obtain ⟨-, h, -⟩ | ⟨-, -, h⟩ | ⟨-, h⟩ := gridWrite_cases n i d s
  · omega
  · exact h
  · rw [h, storeCells_beyond hi]

theorem gridData_beyond (n : Nat) : gridData n i s = 0 := by
  have hlane : gridLane n i s = fun _ => 0 := by
    funext k
    have hk : ¬ i + k < s.cells := by omega
    simp [gridLane, gridByte, hk]
  rw [gridData, hlane]
  rfl

/-- A read that touches no cell is not refused, busy or not (R51; log 10). -/
theorem gridReadRefused_beyond : gridReadRefused i s = false := by
  simp [gridReadRefused, hi]

theorem readsUnwritten_beyond (n : Nat) : readsUnwritten n i s = false := by
  simp only [readsUnwritten, List.any_eq_false, Bool.and_eq_true, decide_eq_true_eq]
  omega

theorem gridReadData_beyond (n : Nat) : gridReadData n i s = 0 := by
  simp [gridReadData, gridReadRefused_beyond hi, gridData_beyond hi]

theorem gridAfterRead_beyond (n : Nat) : gridAfterRead n i s = s := by
  simp [gridAfterRead, gridReadRefused_beyond hi, readsUnwritten_beyond hi]

end Beyond

/-- Settles O49: the block looks at cells alone to refuse an access, to store a byte and to draw one. -/
theorem bytesBeyondTheGridAreReserved : Obligations.BytesBeyondTheGridAreReserved := by
  intro s off w n v hacc hi
  have hl := legalSized_of_gridAccess hacc
  constructor
  · simp only [exec, execWrGrid, answerWrite, hl, if_true, gridWrite_beyond hi]
  · simp only [exec, execRdGrid, answerRead, hl, if_true, gridReadData_beyond hi, gridAfterRead_beyond hi]

end Sys2Proof.Machine
end

section
/-! PROOF. System memory: the pixel write of the drawing loop, what one step does to memory and to what another
agent sees of it, and that agent's reads (20_memory.md R53, R56, R64, R65; 43_blitter.md R131; logs 5, 14, 28). -/

namespace Sys2Proof.Machine

open Sys2Proof.Claims

/-! ## A pixel is drawn -/

/-- The pixel with linear index `i` is stored and marked, and the next one is to come. -/
def drawPixel (i : Nat) (s : State) : State :=
  { s with mem := storePixel s.mem (s.pixelAddr i) (s.pixelValue i), stale := markPixel s.stale (s.pixelAddr i),
           pos := .blit (i + 1) }

theorem memWrite_ok_outside {s : State} {a : Word} (v : Half) (h : s.inWindow a = false) :
    memWrite a v .ok s = ({ s with mem := storePixel s.mem a v, stale := markPixel s.stale a }, true) := by
  simp [memWrite, h]

/-- A turn of the drawing loop with an OK answer, outside the block's own window (R130). -/
theorem blitTurn_ok_outside {s : State} {i : Nat} (hi : i < s.upperCells)
    (hw : s.inWindow (s.pixelAddr i) = false) : blitTurn .ok i s = drawPixel i s :=
  blitTurn_of_ok hi (memWrite_ok_outside _ hw)

theorem pixelValue_of_known {s : State} {i : Nat} {h : Byte} {p : Half} (hg : Memory.read s.grid i = some h)
    (hp : Memory.read s.pal h.toNat = some p) : s.pixelValue i = p := by
  simp [State.pixelValue, State.cell, State.palEntry, hg, hp]

theorem toNat_ne_succ (a : Word) : a.toNat ≠ (a + 1).toNat := by bv_omega

/-- The low byte of a stored pixel (R53). -/
theorem read_storePixel_low (mem : List Host.Cell) (a : Word) (v : Half) :
    Memory.read (storePixel mem a v) a.toNat = some (v.extractLsb' 0 8) := by
  rw [read_storePixel, if_neg (toNat_ne_succ a), if_pos rfl]

/-- The high byte of a stored pixel (R53). -/
theorem read_storePixel_high (mem : List Host.Cell) (a : Word) (v : Half) :
    Memory.read (storePixel mem a v) (a + 1).toNat = some (v.extractLsb' 8 8) := by
  rw [read_storePixel, if_pos rfl]

theorem read_storePixel_other (mem : List Host.Cell) {a : Word} (v : Half) {b : Nat} (hl : b ≠ a.toNat)
    (hh : b ≠ (a + 1).toNat) : Memory.read (storePixel mem a v) b = Memory.read mem b := by
  rw [read_storePixel, if_neg hh, if_neg hl]

/-- Settles O27: the turn is `drawPixel`, and the pixel's value is the palette entry of the known cell. -/
theorem pixelTurnStoresTwoBytes : Obligations.PixelTurnStoresTwoBytes := by
  intro s rest i h p ht hp hi hw hg hpal
  have hv := pixelValue_of_known hg hpal
  have hstep : step s = .next (drawPixel i { s with turns := rest }) :=
    (step_blit ht hp).trans (congrArg _ (blitTurn_ok_outside (s := { s with turns := rest }) hi hw))
  refine ⟨_, hstep, rfl, rfl, ?low, ?high, fun b => ?stale, fun b hl hh => read_storePixel_other _ _ hl hh⟩
  case low => exact hv ▸ read_storePixel_low _ _ _
  case high => exact hv ▸ read_storePixel_high _ _ _
  case stale =>
    refine (mem_markPixel _ _ _).trans ?_
    tauto

/-! ## What a step does to memory -/

/-- System memory, the stale bytes and the record of maintenance are the same. -/
structure SameMemory (s t : State) : Prop where
  mem : t.mem = s.mem
  stale : t.stale = s.stale
  maintained : t.maintained = s.maintained

theorem SameMemory.refl (s : State) : SameMemory s s := ⟨rfl, rfl, rfl⟩

/-- Commands reach memory through the engine's turns alone. -/
theorem sameMemory_issue (c : Command) (s : State) : SameMemory s (issue c s) := by
  obtain ⟨-, h⟩ | ⟨-, -, h⟩ | ⟨-, -, h⟩ := issue_cases c s <;> rw [h]
  · exact ⟨rfl, rfl, rfl⟩
  · rw [accept_eq]
    exact ⟨rfl, rfl, rfl⟩
  · rw [raiseAll_frame]
    exact ⟨rfl, rfl, rfl⟩

theorem sameMemory_gridWrite (n i : Nat) (d : Word) (s : State) : SameMemory s (gridWrite n i d s) := by
  obtain ⟨-, -, h⟩ | ⟨-, -, h⟩ | ⟨-, h⟩ := gridWrite_cases n i d s <;> rw [h]
  · exact ⟨rfl, rfl, rfl⟩
  · exact .refl s
  · rw [storeCells_frame]
    exact ⟨rfl, rfl, rfl⟩

theorem sameMemory_palAfterRead (i : Byte) (s : State) : SameMemory s (palAfterRead i s) := by
  unfold palAfterRead
  split_ifs <;> exact ⟨rfl, rfl, rfl⟩

theorem sameMemory_gridAfterRead (n i : Nat) (s : State) : SameMemory s (gridAfterRead n i s) := by
  unfold gridAfterRead
  split_ifs <;> exact ⟨rfl, rfl, rfl⟩

/-- No host transaction reaches system memory. -/
theorem HostEffect.sameMemory {s u : State} (h : HostEffect s u) : SameMemory s u := by
  cases h with
  | command c => exact sameMemory_issue c s
  | readPal i => exact sameMemory_palAfterRead i s
  | readGrid n i => exact sameMemory_gridAfterRead n i s
  | writeGrid n i d => exact sameMemory_gridWrite n i d s
  | _ => exact ⟨rfl, rfl, rfl⟩

theorem sameMemory_hostTurn {txn : Txn} {s t : State} (h : hostTurn txn s = .next t) : SameMemory s t := by
  obtain ⟨u, r, hu, hs⟩ := hostTurn_answersHost txn s
  cases hs.symm.trans h
  obtain ⟨hm, hl, hc⟩ := hu.sameMemory
  exact ⟨hm, hl, hc⟩

/-- The engine's position is a pixel outside the block's own window, and memory changed by a write to it. -/
structure WritesPixel (s t : State) (i : Nat) : Prop where
  pos : s.pos = .blit i
  drawn : i < s.upperCells
  outside : s.inWindow (s.pixelAddr i) = false
  reach : PixelReach (s.pixelAddr i) s t
  maintained : t.maintained = s.maintained

/-- What the engine does to memory: nothing, or one pixel write. -/
def EngineMemory (s t : State) : Prop := SameMemory s t ∨ ∃ i, WritesPixel s t i

theorem EngineMemory.congr {s t u : State} (h : EngineMemory s t) (hu : SameMemory t u) : EngineMemory s u := by
  obtain ⟨hm, hl, hc⟩ := hu
  obtain ⟨hm', hl', hc'⟩ | ⟨i, hp, hi, hw, ⟨hstale, honly⟩, hc'⟩ := h
  · exact .inl ⟨hm.trans hm', hl.trans hl', hc.trans hc'⟩
  · exact .inr ⟨i, hp, hi, hw, ⟨by rwa [hl], by rwa [hm, hl]⟩, hc.trans hc'⟩

theorem memWrite_engineMemory {s : State} {i : Nat} (hp : s.pos = .blit i) (hi : i < s.upperCells) (v : Half)
    (r : PortResponse) : EngineMemory s (memWrite (s.pixelAddr i) v r s).1 := by
  have hreach := memWrite_reach (s.pixelAddr i) v r s
  obtain ⟨hw, -, h⟩ | ⟨hw, -, h⟩ | ⟨-, h | h | ⟨k, h⟩⟩ := memWrite_cases (s.pixelAddr i) v r s <;>
    rw [h] at hreach ⊢
  · exact .inr ⟨i, hp, hi, hw, hreach, rfl⟩
  · exact .inr ⟨i, hp, hi, hw, hreach, rfl⟩
  · exact .inl (.refl s)
  · exact .inl (.refl s)
  · exact .inl (sameMemory_gridWrite 2 k _ s)

theorem blitTurn_engineMemory {s : State} {i : Nat} (r : PortResponse) (hp : s.pos = .blit i) :
    EngineMemory s (blitTurn r i s) := by
  unfold blitTurn
  dsimp only
  split
  · have h := memWrite_engineMemory hp ‹_› (s.pixelValue i) r
    split
    · exact h.congr ⟨rfl, rfl, rfl⟩
    · exact h.congr ⟨rfl, rfl, rfl⟩
  · exact .inl ⟨rfl, rfl, rfl⟩

theorem sameMemory_palTurn (i : Nat) (s : State) : SameMemory s (palTurn i s) := by
  unfold palTurn
  split <;> exact ⟨rfl, rfl, rfl⟩

theorem sameMemory_clearTurn (i : Nat) (s : State) : SameMemory s (clearTurn i s) := by
  unfold clearTurn
  split <;> exact ⟨rfl, rfl, rfl⟩

theorem sameMemory_stepTurn (i : Nat) (s : State) : SameMemory s (stepTurn i s) := by
  unfold stepTurn
  split_ifs <;> exact ⟨rfl, rfl, rfl⟩

theorem sameMemory_complete (s : State) : SameMemory s (complete s) := by
  rw [complete_frame]
  exact ⟨rfl, rfl, rfl⟩

/-- Of the engine's turns only those of the drawing loop reach memory. -/
theorem engineTurn_engineMemory (r : PortResponse) (s : State) : EngineMemory s (engineTurn r s) := by
  unfold engineTurn
  cases hp : s.pos with
  | idle => exact .inl (.refl s)
  | pal i => exact .inl (sameMemory_palTurn i s)
  | clear i => exact .inl (sameMemory_clearTurn i s)
  | step i => exact .inl (sameMemory_stepTurn i s)
  | blit i => exact blitTurn_engineMemory r hp
  | finish => exact .inl (sameMemory_complete s)

/-- Neither the turns to come nor the draws matter to memory. -/
theorem EngineMemory.of_outside {s t : State} {ts : List Turn} {d : Nat}
    (h : EngineMemory { s with turns := ts, draws := d } t) : EngineMemory s t := by
  obtain ⟨hm, hl, hc⟩ | ⟨i, hp, hi, hw, ⟨hstale, honly⟩, hc⟩ := h
  · exact .inl ⟨hm, hl, hc⟩
  · exact .inr ⟨i, hp, hi, hw, ⟨hstale, honly⟩, hc⟩

theorem autonomousTurn_engineMemory (s : State) : EngineMemory s (autonomousTurn s) := by
  unfold autonomousTurn
  split
  · exact .of_outside (engineTurn_engineMemory _ (s.advanceDraws 1))
  all_goals exact engineTurn_engineMemory _ s

theorem resetTurn_engineMemory (f : Option PortResponse) (s : State) : EngineMemory s (resetTurn f s) := by
  have hland : EngineMemory s (landInFlight f s) := by
    obtain h | ⟨r, i, -, hp, hi, h⟩ := landInFlight_cases f s <;> rw [h]
    · exact .inl (.refl s)
    · exact memWrite_engineMemory hp hi _ r
  obtain ⟨hm, hl, -⟩ | ⟨i, hp, hi, hw, ⟨hstale, honly⟩, -⟩ := hland
  · exact .inl ⟨hm, hl, rfl⟩
  · exact .inr ⟨i, hp, hi, hw, ⟨hstale, honly⟩, rfl⟩

/-- What one step can do to memory: nothing, another agent's write, maintenance, or one pixel write, of the
engine or in flight at reset. -/
inductive MemoryCase (s t : State) : Prop
  | kept (h : SameMemory s t)
  | agentWrote (a : Word) (v : Byte) (rest : List Turn) (hn : s.turns = .agentWrite a v :: rest)
      (hm : t.mem = Memory.write s.mem a.toNat v) (hl : t.stale = s.stale) (hc : t.maintained = s.maintained)
  | maintained (hm : t.mem = s.mem) (hl : t.stale = []) (hc : t.maintained = true)
  | pixel (hn : engineNext s ∨ resetNext s) (i : Nat) (h : WritesPixel s t i)

theorem EngineMemory.memoryCase {s t : State} (h : EngineMemory s t) (hn : engineNext s ∨ resetNext s) :
    MemoryCase s t := by
  obtain h | ⟨i, h⟩ := h
  · exact .kept h
  · exact .pixel hn i h

theorem step_memoryCase {s t : State} (h : step s = .next t) : MemoryCase s t := by
  cases hn : s.turns with
  | nil =>
    cases (step_nil hn).symm.trans h
    exact (autonomousTurn_engineMemory s).memoryCase (.inl (.inl hn))
  | cons n rest =>
    have ht := (step_cons hn).symm.trans h
    cases n with
    | host txn =>
      obtain ⟨hm, hl, hc⟩ := sameMemory_hostTurn ht
      exact .kept ⟨hm, hl, hc⟩
    | engine r =>
      cases ht
      exact (engineTurn_engineMemory r { s with turns := rest }).of_outside.memoryCase (.inl (.inr ⟨r, rest, hn⟩))
    | reset f =>
      cases ht
      exact (resetTurn_engineMemory f { s with turns := rest }).of_outside.memoryCase (.inr ⟨f, rest, hn⟩)
    | agentWrite a v =>
      cases ht
      unfold agentWriteTurn
      split
      · exact .kept ⟨rfl, rfl, rfl⟩
      · exact .agentWrote a v rest hn rfl rfl rfl
    | agentRead a =>
      cases ht
      unfold agentReadTurn
      split <;> exact .kept ⟨rfl, rfl, rfl⟩
    | maintain =>
      cases ht
      exact .maintained rfl rfl rfl

/-! ## What another agent sees -/

/-- A byte stays visible while it does not become stale. -/
theorem upToDate_of_stale {s t : State} {a : Word} (hs : upToDate s a) (hp : t.params = s.params)
    (hc : t.maintained = s.maintained) (hl : a.toNat ∈ t.stale → a.toNat ∈ s.stale) : upToDate t a := by
  obtain h | ⟨hm, hn⟩ := hs
  · exact .inl (by rw [hp, h])
  · exact .inr ⟨hc.trans hm, mt hl hn⟩

/-- A pixel write leaves every byte but its own as it was. -/
theorem PixelReach.other {p a : Word} {s t : State} (h : PixelReach p s t) (hl : a ≠ p) (hh : a ≠ p + 1) :
    Memory.read t.mem a.toNat = Memory.read s.mem a.toNat ∧ (a.toNat ∈ t.stale → a.toNat ∈ s.stale) := by
  have hne : ¬ (a.toNat = p.toNat ∨ a.toNat = (p + 1).toNat) := by
    rw [BitVec.toNat_inj, BitVec.toNat_inj]
    exact not_or_intro hl hh
  have honly := mt (h.only a.toNat) hne
  rw [not_or, not_not, not_and, not_not] at honly
  exact honly

/-- Only a pixel write to the byte itself ends its being up to date (R64; log 28). -/
theorem MemoryCase.outdates {s t : State} {a : Word} (h : MemoryCase s t) (hp : t.params = s.params)
    (hs : upToDate s a) (ht : ¬ upToDate t a) :
    (engineNext s ∨ resetNext s) ∧ ∃ i, s.pos = .blit i ∧ i < s.upperCells ∧
      s.inWindow (s.pixelAddr i) = false ∧ (a = s.pixelAddr i ∨ a = s.pixelAddr i + 1) := by
  cases h with
  | kept h => exact absurd (upToDate_of_stale hs hp h.maintained (by rw [h.stale]; exact id)) ht
  | agentWrote b v rest hn hm hl hc => exact absurd (upToDate_of_stale hs hp hc (by rw [hl]; exact id)) ht
  | maintained hm hl hc => exact absurd (.inr ⟨hc, by simp [hl]⟩) ht
  | pixel hn i h =>
    refine ⟨hn, i, h.pos, h.drawn, h.outside, ?_⟩
    by_contra hne
    rw [not_or] at hne
    exact ht (upToDate_of_stale hs hp h.maintained (h.reach.other hne.1 hne.2).2)

/-- A byte that is up to date stays so, with its value, while no one writes it (R64, R65). -/
theorem MemoryCase.keeps {s t : State} {a : Word} {v : Byte} (h : MemoryCase s t) (hp : t.params = s.params)
    (hs : upToDate s a) (hm : Memory.read s.mem a.toNat = some v)
    (hpixel : ∀ i, s.pos = .blit i → i < s.upperCells → engineNext s ∨ resetNext s →
      a ≠ s.pixelAddr i ∧ a ≠ s.pixelAddr i + 1)
    (hagent : ∀ w rest, s.turns ≠ .agentWrite a w :: rest) :
    upToDate t a ∧ Memory.read t.mem a.toNat = some v := by
  cases h with
  | kept h =>
    exact ⟨upToDate_of_stale hs hp h.maintained (by rw [h.stale]; exact id), by rw [h.mem, hm]⟩
  | agentWrote b w rest hn hw hl hc =>
    refine ⟨upToDate_of_stale hs hp hc (by rw [hl]; exact id), ?_⟩
    have hab : a ≠ b := fun h => hagent w rest (h ▸ hn)
    rw [hw, read_write_other _ _ _ _ (mt BitVec.eq_of_toNat_eq hab), hm]
  | maintained hk hl hc => exact ⟨.inr ⟨hc, by simp [hl]⟩, by rw [hk, hm]⟩
  | pixel hn i h =>
    obtain ⟨hlow, hhigh⟩ := hpixel i h.pos h.drawn hn
    obtain ⟨hread, hstale⟩ := h.reach.other hlow hhigh
    exact ⟨upToDate_of_stale hs hp h.maintained hstale, hread.trans hm⟩

/-! ## Another agent's turns -/

/-- Another agent reads a byte that memory holds and that is up to date (R64). -/
theorem step_agentRead {s : State} {a : Word} {v : Byte} {rest : List Turn} (hw : s.inWindow a = false)
    (hs : upToDate s a) (hm : Memory.read s.mem a.toNat = some v) (ht : s.turns = .agentRead a :: rest) :
    step s = .next { s with turns := rest, agentData := v, draws := s.draws + 1 } := by
  have hbyte : agentByte a { s with turns := rest } = v := agentByte_of_visible ((visible_iff _ a).2 hs) hm
  have hturn : agentReadTurn a { s with turns := rest } =
      { s with turns := rest, agentData := v, draws := s.draws + 1 } := by
    rw [agentReadTurn, if_neg (by simpa [State.inWindow] using hw), hbyte]
    rfl
  rw [step_cons ht, ← hturn]
  rfl

/-- Another agent writes a byte outside the window (R65). -/
theorem step_agentWrite {s : State} {a : Word} {v : Byte} {rest : List Turn} (hw : s.inWindow a = false)
    (ht : s.turns = .agentWrite a v :: rest) :
    step s = .next { s with turns := rest, mem := Memory.write s.mem a.toNat v } := by
  have hturn : agentWriteTurn a v { s with turns := rest } =
      { s with turns := rest, mem := Memory.write s.mem a.toNat v } :=
    if_neg (by simpa [State.inWindow] using hw)
  rw [step_cons ht, ← hturn]
  rfl

/-- After cache maintenance another agent reads whatever byte memory holds (R64). -/
theorem runsTo_maintain_agentRead {s : State} {a : Word} {v : Byte} {rest : List Turn} (hw : s.inWindow a = false)
    (hm : Memory.read s.mem a.toNat = some v) (ht : s.turns = .maintain :: .agentRead a :: rest) :
    runsTo 2 s { s with turns := rest, maintained := true, stale := [], agentData := v, draws := s.draws + 1 } := by
  have hmaintain : step s = .next (maintainTurn { s with turns := .agentRead a :: rest }) := step_cons ht
  have hread := step_agentRead (s := maintainTurn { s with turns := .agentRead a :: rest }) hw
    (.inr ⟨rfl, List.not_mem_nil⟩) hm rfl
  exact runsTo_succ hmaintain (runsTo_succ hread (runsTo_zero _))

/-- Settles O57: the rules about reads are the agent's own turns, and the two about every step go over the cases
of what a step can do to memory. -/
theorem coherentAgentReadsWhatMemoryHolds : Obligations.CoherentAgentReadsWhatMemoryHolds := by
  refine ⟨fun s a v rest hw hs hm ht => ⟨_, step_agentRead hw hs hm ht, rfl⟩, fun s a v rest hw hs ht => ?wrote,
    fun s a v rest hw hm ht => ⟨_, runsTo_maintain_agentRead hw hm ht, rfl⟩,
    fun s t a h => (step_memoryCase h).outdates (step_params h),
    fun s t a v h => (step_memoryCase h).keeps (step_params h)⟩
  case wrote =>
    have hread := step_agentRead
      (s := { s with turns := .agentRead a :: rest, mem := Memory.write s.mem a.toNat v })
      hw hs (read_write_same _ _ _) rfl
    exact ⟨_, _, step_agentWrite hw ht, rfl, fun b hb => read_write_other _ _ _ _ hb, hread, rfl⟩

end Sys2Proof.Machine
end

section
/-! PROOF. RENDER with every pixel write answered OK, and the image the host reads back (20_memory.md R64;
43_blitter.md R130 to R134; log 28). -/

namespace Sys2Proof.Machine

open Sys2Proof.Claims

/-! ## Runs -/

theorem run_add {M : Host.Core} {m n : Nat} {s t : M.State} {o : Host.Outcome M.State M.Fault M.Refusal}
    (h : M.run m s = .next t) (hr : M.run n t = o) : M.run (m + n) s = o := by
  induction m generalizing s with
  | zero =>
    cases h
    rwa [Nat.zero_add]
  | succ m ih =>
    rw [Host.Core.run] at h
    rw [Nat.succ_add, Host.Core.run]
    split at h
    · exact ih h
    · cases h
    · cases h

/-- A run of `m + n` steps is a run of `m` and a run of `n`. -/
theorem runsTo_add {m n : Nat} {s t u : State} (h : runsTo m s t) (hr : runsTo n t u) : runsTo (m + n) s u :=
  run_add (M := Sys2Proof.core) h hr

/-! ## The drawing loop -/

/-- `n` pixels are drawn, from the one with linear index `i` on. -/
def drawPixels : Nat → Nat → State → State
  | 0, _, s => s
  | n + 1, i, s => drawPixels n (i + 1) (drawPixel i s)

/-- Drawing touches memory, the stale bytes and the engine's position alone. -/
theorem drawPixels_frame (n i : Nat) (s : State) :
    drawPixels n i s = { s with mem := (drawPixels n i s).mem, stale := (drawPixels n i s).stale,
                                pos := (drawPixels n i s).pos } := by
  induction n generalizing i s with
  | zero => rfl
  | succ n ih =>
    rw [drawPixels, ih]
    rfl

/-- Drawing does not look at the turns to come. -/
theorem drawPixels_turns (n i : Nat) (s : State) (ts : List Turn) :
    drawPixels n i { s with turns := ts } = { drawPixels n i s with turns := ts } := by
  induction n generalizing i s with
  | zero => rfl
  | succ n ih => exact ih (i + 1) (drawPixel i s)

theorem drawPixels_upperCells (n i : Nat) (s : State) : (drawPixels n i s).upperCells = s.upperCells := by
  rw [drawPixels_frame]
  rfl

theorem drawPixels_pos {n i : Nat} {s : State} (h : s.pos = .blit i) : (drawPixels n i s).pos = .blit (i + n) := by
  induction n generalizing i s with
  | zero => exact h
  | succ n ih =>
    rw [drawPixels, ih rfl]
    congr 1
    omega

/-- A byte of no pixel drawn is as before (R134). -/
theorem read_drawPixels_other {n i : Nat} {s : State} {b : Nat}
    (h : ∀ j, i ≤ j → j < i + n → b ≠ (s.pixelAddr j).toNat ∧ b ≠ (s.pixelAddr j + 1).toNat) :
    Memory.read (drawPixels n i s).mem b = Memory.read s.mem b := by
  induction n generalizing i s with
  | zero => rfl
  | succ n ih =>
    obtain ⟨hlow, hhigh⟩ := h i (by omega) (by omega)
    have hrest := ih (i := i + 1) (s := drawPixel i s) fun j hj hjn => h j (by omega) (by omega)
    exact hrest.trans (read_storePixel_other _ _ hlow hhigh)

/-- Pixels at even addresses share both bytes or none (R57). -/
theorem disjoint_of_even {a b : Word} (ha : a.toNat % 2 = 0) (hb : b.toNat % 2 = 0) (h : b ≠ a) :
    (a.toNat ≠ b.toNat ∧ a.toNat ≠ (b + 1).toNat) ∧ ((a + 1).toNat ≠ b.toNat ∧ (a + 1).toNat ≠ (b + 1).toNat) := by
  bv_omega

theorem pixelAddr_even {s : State} (h : DestinationEven s) (i : Nat) : (s.pixelAddr i).toNat % 2 = 0 := by
  obtain ⟨hbase, hpitch⟩ := h
  have hrow : s.lat.pitch.toNat * (i / s.params.gridW) % 2 = 0 := by
    rw [Nat.mul_mod, hpitch, Nat.zero_mul, Nat.zero_mod]
  simp only [State.pixelAddr, pixelAddress, BitVec.toNat_ofNat]
  omega

/-- The two bytes of a pixel drawn that no later one overwrites (R53, R134). -/
theorem read_drawPixels {n i j : Nat} {s : State} (he : DestinationEven s) (hj : i ≤ j) (hjn : j < i + n)
    (hlast : ∀ k, j < k → k < i + n → s.pixelAddr k ≠ s.pixelAddr j) :
    Memory.read (drawPixels n i s).mem (s.pixelAddr j).toNat = some ((s.pixelValue j).extractLsb' 0 8) ∧
      Memory.read (drawPixels n i s).mem (s.pixelAddr j + 1).toNat = some ((s.pixelValue j).extractLsb' 8 8) := by
  induction n generalizing i s with
  | zero => omega
  | succ n ih =>
    by_cases hij : i = j
    · subst hij
      have hdisjoint (k : Nat) (hk : i + 1 ≤ k) (hkn : k < i + 1 + n) :=
        disjoint_of_even (pixelAddr_even he i) (pixelAddr_even he k) (hlast k (by omega) (by omega))
      constructor
      · exact (read_drawPixels_other (s := drawPixel i s) fun k hk hkn => (hdisjoint k hk hkn).1).trans
          (read_storePixel_low _ _ _)
      · exact (read_drawPixels_other (s := drawPixel i s) fun k hk hkn => (hdisjoint k hk hkn).2).trans
          (read_storePixel_high _ _ _)
    · exact ih (s := drawPixel i s) he (by omega) (by omega) fun k hk hkn => hlast k hk (by omega)

/-- `n` turns of the drawing loop, answered OK, outside the block's own window (R130, R132). -/
theorem runsTo_drawPixels {n i : Nat} {s : State} {rest : List Turn} (hp : s.pos = .blit i)
    (hn : i + n ≤ s.upperCells) (hw : ∀ j, i ≤ j → j < i + n → s.inWindow (s.pixelAddr j) = false)
    (ht : s.turns = List.replicate n (.engine .ok) ++ rest) :
    runsTo n s (drawPixels n i { s with turns := rest }) := by
  induction n generalizing i s with
  | zero =>
    have hs : s = { s with turns := rest } := by rw [← show s.turns = rest from ht]
    exact congrArg _ hs
  | succ n ih =>
    have hturn : step s = .next (drawPixel i { s with turns := List.replicate n (.engine .ok) ++ rest }) :=
      (step_blit ht hp).trans (congrArg _ (blitTurn_ok_outside
        (s := { s with turns := List.replicate n (.engine .ok) ++ rest }) (show i < s.upperCells by omega)
        (hw i (by omega) (by omega))))
    exact runsTo_succ hturn (ih rfl (show i + 1 + n ≤ s.upperCells by omega)
      (fun j hj hjn => hw j (by omega) (by omega)) rfl)

/-- Past the last pixel no write is left (R130). -/
theorem blitTurn_past {s : State} {i : Nat} (r : PortResponse) (hi : s.upperCells ≤ i) :
    blitTurn r i s = { s with pos := .finish } := if_neg (Nat.not_lt.2 hi)

/-- Past the last pixel the loop ends and the command completes (R130, R141). -/
theorem runsTo_finish {s : State} {i : Nat} (hp : s.pos = .blit i) (hi : s.upperCells ≤ i)
    (ht : s.turns = [.engine .ok, .engine .ok]) :
    runsTo 2 s (complete { s with turns := [], pos := .finish }) := by
  have hend : step s = .next { s with turns := [.engine .ok], pos := .finish } :=
    (step_blit ht hp).trans (congrArg _ (blitTurn_past (s := { s with turns := [.engine .ok] }) .ok hi))
  exact runsTo_succ hend (runsTo_succ (step_engine rfl) (runsTo_zero _))

/-! ## RENDER -/

/-- A command whose checks pass is accepted on an idle block, and the bus answers OK (R140). -/
theorem answerCommand_of_acceptable {c : Command} {s : State} (hb : s.busy = false) (ha : acceptable c s) :
    answerCommand c s = .next { accept c s with reply := .done } := by
  have hfails := (acceptFails_eq_nil_iff c s).2 ha
  simp [answerCommand, issue, hb, hfails]

/-- A RENDER just accepted, with `n` engine turns to come, every pixel write answered OK. -/
def renderAccepted (n : Nat) (s : State) : State :=
  { accept .render (answeredOk n s) with reply := .done }

/-- The RENDER once every pixel is drawn, with the turns `ts` to come. -/
def imageDrawn (s : State) (ts : List Turn) : State :=
  { drawPixels s.upperCells 0 (renderAccepted 0 s) with turns := ts }

/-- The RENDER completed. -/
def rendered (s : State) : State := complete { imageDrawn s [] with pos := .finish }

theorem exec_render {s : State} (hr : readyFor .render s) (n : Nat) :
    exec .render (answeredOk n s) = .next (renderAccepted n s) := by
  obtain ⟨-, hb, -, -, ha⟩ := hr
  exact answerCommand_of_acceptable (s := answeredOk n s) hb ha

/-- The addresses the loop writes are those of R131 for the operands at acceptance. -/
theorem renderAccepted_pixelAddr (n : Nat) (s : State) (i : Nat) :
    (renderAccepted n s).pixelAddr i = pixelAt s (i / s.params.gridW) (i % s.params.gridW) := rfl

theorem renderAccepted_destinationEven {s : State} (hr : readyFor .render s) (n : Nat) :
    DestinationEven (renderAccepted n s) := by
  obtain ⟨-, -, -, -, ha⟩ := hr
  exact destinationEven_accept (s := answeredOk n s) (.inl rfl) ha

/-! ### Pixels by row and column -/

/-- The row and the column of a linear index. -/
theorem index_div_mod {w y x : Nat} (hx : x < w) : (y * w + x) / w = y ∧ (y * w + x) % w = x := by
  rw [Nat.mul_comm, Nat.mul_add_div (by omega), Nat.div_eq_of_lt hx, Nat.mul_add_mod,
    Nat.mod_eq_of_lt hx]
  exact ⟨rfl, rfl⟩

theorem index_lt_upperCells {s : State} {y x : Nat} (hy : y + 1 < s.params.gridH) (hx : x < s.params.gridW) :
    y * s.params.gridW + x < s.upperCells := by
  have hrow : (y + 1) * s.params.gridW ≤ (s.params.gridH - 1) * s.params.gridW :=
    Nat.mul_le_mul_right _ (by omega)
  rw [Nat.add_mul, Nat.one_mul] at hrow
  exact lt_of_lt_of_le (by omega) hrow

/-- An index of the upper rows lies in an upper row and in a column of the grid. -/
theorem bounds_of_lt_upperCells {s : State} {i : Nat} (hi : i < s.upperCells) :
    i / s.params.gridW + 1 < s.params.gridH ∧ i % s.params.gridW < s.params.gridW := by
  have hw : 0 < s.params.gridW := Nat.pos_of_ne_zero fun h => by simp [State.upperCells, h] at hi
  have hrow : i / s.params.gridW < s.params.gridH - 1 := (Nat.div_lt_iff_lt_mul hw).2 hi
  exact ⟨Nat.add_lt_of_lt_sub hrow, Nat.mod_lt i hw⟩

/-- A larger index lies in a later row, or later in the same row (R132). -/
theorem later_of_index_lt {w y x k : Nat} (hx : x < w) (h : y * w + x < k) :
    y < k / w ∨ (y = k / w ∧ x < k % w) := by
  have hrow : y ≤ k / w := (Nat.le_div_iff_mul_le (by omega)).2 (by omega)
  obtain hlt | rfl := Nat.lt_or_eq_of_le hrow
  · exact .inl hlt
  · have hk := Nat.div_add_mod k w
    rw [Nat.mul_comm] at hk
    exact .inr ⟨rfl, by omega⟩

theorem renderAccepted_pixelAddr_at (n : Nat) (s : State) {y x : Nat} (hx : x < s.params.gridW) :
    (renderAccepted n s).pixelAddr (y * s.params.gridW + x) = pixelAt s y x := by
  obtain ⟨hrow, hcolumn⟩ := index_div_mod (y := y) hx
  rw [renderAccepted_pixelAddr, hrow, hcolumn]

/-! ### Outside the window -/

theorem inWindow_pixelAt {s : State} {y x : Nat} (ho : outsideWindow s) (hy : y + 1 < s.params.gridH)
    (hx : x < s.params.gridW) : s.inWindow (pixelAt s y x) = false := by
  have h := ho y x hy hx
  simp only [State.inWindow, Bool.and_eq_false_iff, decide_eq_false_iff_not]
  omega

/-- The window starts and ends at an even address, so both bytes of a pixel lie on the same side (R60). -/
theorem inWindow_succ_of_even {s : State} {a : Word} (hv : s.params.Valid) (ha : a.toNat % 2 = 0)
    (hw : s.inWindow a = false) : s.inWindow (a + 1) = false := by
  obtain ⟨-, -, -, -, -, hbase⟩ := hv
  have hsucc : (a + 1).toNat = a.toNat + 1 := by bv_omega
  simp only [State.inWindow, Bool.and_eq_false_iff, decide_eq_false_iff_not] at hw ⊢
  omega

theorem pixelAt_even {s : State} (hr : readyFor .render s) {y x : Nat} (hx : x < s.params.gridW) :
    (pixelAt s y x).toNat % 2 = 0 := by
  rw [← renderAccepted_pixelAddr_at 0 s hx]
  exact pixelAddr_even (renderAccepted_destinationEven hr 0) _

/-! ### The run -/

theorem runsTo_imageDrawn {s : State} (ho : outsideWindow s) :
    runsTo s.upperCells (renderAccepted (s.upperCells + 2) s) (imageDrawn s [.engine .ok, .engine .ok]) := by
  have hturns : (renderAccepted (s.upperCells + 2) s).turns =
      List.replicate s.upperCells (.engine .ok) ++ [.engine .ok, .engine .ok] :=
    List.replicate_add s.upperCells 2 _
  have houtside (j : Nat) (_ : 0 ≤ j) (hj : j < 0 + s.upperCells) :
      s.inWindow (pixelAt s (j / s.params.gridW) (j % s.params.gridW)) = false := by
    obtain ⟨hy, hx⟩ := bounds_of_lt_upperCells (s := s) (i := j) (by omega)
    exact inWindow_pixelAt ho hy hx
  rw [imageDrawn, ← drawPixels_turns]
  exact runsTo_drawPixels (s := renderAccepted (s.upperCells + 2) s) rfl (Nat.zero_add _).le houtside hturns

/-- The turns of a RENDER: its pixels, the end of the loop and the completion. -/
theorem runsTo_rendered {s : State} (ho : outsideWindow s) :
    runsTo (s.upperCells + 2) (renderAccepted (s.upperCells + 2) s) (rendered s) := by
  have hpos : (imageDrawn s [.engine .ok, .engine .ok]).pos = .blit (0 + s.upperCells) :=
    drawPixels_pos (s := renderAccepted 0 s) rfl
  have hend : (imageDrawn s [.engine .ok, .engine .ok]).upperCells ≤ 0 + s.upperCells :=
    (drawPixels_upperCells _ _ (renderAccepted 0 s)).le.trans (Nat.zero_add _).ge
  exact runsTo_add (runsTo_imageDrawn ho) (runsTo_finish hpos hend rfl)

theorem rendered_params (s : State) : (rendered s).params = s.params := by
  rw [rendered, complete_params, imageDrawn, drawPixels_frame]
  rfl

/-! ### The image -/

/-- The bytes of an exchanged pixel (R102). -/
theorem swap16_bytes (p : Half) :
    (swap16 p).extractLsb' 0 8 = p.extractLsb' 8 8 ∧ (swap16 p).extractLsb' 8 8 = p.extractLsb' 0 8 :=
  ⟨BitVec.extractLsb'_append_eq_right, BitVec.extractLsb'_append_eq_left⟩

/-- A pixel's value is its packed colour with the bytes exchanged, for any converter (R104, R134). -/
theorem renderAccepted_pixelValue {s : State} (hr : readyFor .render s) (n : Nat) {y x : Nat}
    (hy : y + 1 < s.params.gridH) (hx : x < s.params.gridW) :
    (renderAccepted n s).pixelValue (y * s.params.gridW + x) = swap16 (packedColor s.params (heat s y x)) := by
  obtain ⟨-, -, hgrid, hpal, -⟩ := hr
  have hi := index_lt_upperCells (s := s) hy hx
  obtain ⟨b, hb⟩ := Option.isSome_iff_exists.1 (hgrid _ (hi.trans_le (upperCells_le_cells s)))
  have hheat : heat s y x = b.toNat := by simp only [heat, hb]
  rw [hheat]
  exact pixelValue_of_known (s := renderAccepted n s) hb (hpal b)

/-- The image RENDER leaves in memory: the packed colour, high byte first (R53, R134). -/
theorem read_rendered {s : State} (hr : readyFor .render s) {y x : Nat} (hy : y + 1 < s.params.gridH)
    (hx : x < s.params.gridW) (hl : lastAtItsAddress s y x) :
    Memory.read (rendered s).mem (pixelAt s y x).toNat =
        some ((packedColor s.params (heat s y x)).extractLsb' 8 8) ∧
      Memory.read (rendered s).mem (pixelAt s y x + 1).toNat =
        some ((packedColor s.params (heat s y x)).extractLsb' 0 8) := by
  have hlast (k : Nat) (hk : y * s.params.gridW + x < k) (hkn : k < 0 + s.upperCells) :
      (renderAccepted 0 s).pixelAddr k ≠ (renderAccepted 0 s).pixelAddr (y * s.params.gridW + x) := by
    obtain ⟨hky, hkx⟩ := bounds_of_lt_upperCells (s := s) (i := k) (by omega)
    rw [renderAccepted_pixelAddr_at 0 s hx]
    exact hl _ _ (later_of_index_lt hx hk) hky hkx
  have hdrawn := read_drawPixels (renderAccepted_destinationEven hr 0) (Nat.zero_le _)
    (by rw [Nat.zero_add]; exact index_lt_upperCells hy hx) hlast
  obtain ⟨hlow, hhigh⟩ := swap16_bytes (packedColor s.params (heat s y x))
  rw [renderAccepted_pixelAddr_at 0 s hx, renderAccepted_pixelValue hr 0 hy hx, hlow, hhigh] at hdrawn
  rw [rendered, (sameMemory_complete _).mem]
  exact hdrawn

/-! ## The host reads the image back -/

/-- What the host reads of a byte that memory holds: after maintenance on every platform, at once on a coherent
one (R64). -/
def ReadsBack (u : State) (a : Word) (v : Byte) : Prop :=
  (∃ r, runsTo 2 { u with turns := [.maintain, .agentRead a] } r ∧ r.agentData = v) ∧
    (u.params.dmaCoherent = true → ∃ r, runsTo 1 { u with turns := [.agentRead a] } r ∧ r.agentData = v)

theorem readsBack_of_read {u : State} {a : Word} {v : Byte} (hw : u.inWindow a = false)
    (hm : Memory.read u.mem a.toNat = some v) : ReadsBack u a v :=
  ⟨⟨_, runsTo_maintain_agentRead (s := { u with turns := [.maintain, .agentRead a] }) hw hm rfl, rfl⟩,
    fun hc => ⟨_, runsTo_succ (step_agentRead (s := { u with turns := [.agentRead a] }) hw (.inl hc) hm rfl)
      (runsTo_zero _), rfl⟩⟩

theorem rendered_inWindow (s : State) (a : Word) : (rendered s).inWindow a = s.inWindow a := by
  simp only [State.inWindow, rendered_params]

/-- Settles O60: the run of the drawing loop leaves the image in memory, and its bytes lie outside the window. -/
theorem maintainedImageIsReadBack : Obligations.MaintainedImageIsReadBack := by
  intro s hr ho
  refine ⟨_, _, rendered s, exec_render hr _, runsTo_rendered ho, complete_busy _, fun y x hy hx hl => ?_⟩
  have ⟨hv, _⟩ := hr
  have hw := inWindow_pixelAt ho hy hx
  have hw' := inWindow_succ_of_even hv (pixelAt_even hr hx) hw
  rw [← rendered_inWindow] at hw hw'
  obtain ⟨hhigh, hlow⟩ := read_rendered hr hy hx hl
  obtain ⟨hm, hc⟩ := readsBack_of_read hw hhigh
  obtain ⟨hm', hc'⟩ := readsBack_of_read hw' hlow
  refine ⟨hm, hm', fun h => ?_⟩
  rw [← rendered_params] at h
  exact ⟨hc h, hc' h⟩

end Sys2Proof.Machine
end

section
/-! PROOF. The encoding (30_encoding.md): decoding and encoding undo each other and the decoder follows the opcode
table (R70, R71, R74); a CMD word names its command or is refused (R75, R76; log 26); a write of a command's word
is the command, and an accepted command starts the engine (R72, 44_control_and_access.md R140). -/

namespace Sys2Proof.Machine

open Sys2Proof.Claims

/-! ## Reserved accesses: the direction bit and the data lines -/

/-- The decoder reads an access back from its direction bit and its data lines. -/
theorem access_of_dir (a : RsvAccess) : (if a.dir[0] then RsvAccess.write a.lines else .read) = a := by
  cases a <;> simp [RsvAccess.dir, RsvAccess.lines]

theorem dir_access (b : Bool) (v : Word) :
    (if b then RsvAccess.write v else .read).dir = BitVec.ofBool b := by cases b <;> rfl

theorem lines_access (b : Bool) (v : Word) :
    (if b then RsvAccess.write v else .read).lines = if b then v else 0 := by cases b <;> rfl

/-! ## Decoding an encoded instruction -/

/-- Settles O3. The key of a register row is a constant; the key of a window row has the constant bits of its
region over the operand, so the decoder's tests take the branch of that region and read the operand back. -/
theorem decodeOfEncodeIsTheInstruction : Obligations.DecodeOfEncodeIsTheInstruction := by
  intro i _
  cases i with
  | nop | init | clear | buildPal | step | render | effect => rfl
  | rdId w | rdGeom w | rdCmd w | rdStatus w | rdIrqEn w | rdParam w | rdDstBase w | rdDstPitch w
  | rdDstDepth w | rdLastErr w | rdFaultAddr w | rdConvHsl w | rdConvRgb w | rdConvPix w => rfl
  | wrId w v | wrGeom w v | wrCmd w v | wrStatus w v | wrIrqEn w v | wrParam w v | wrDstBase w v
  | wrDstPitch w v | wrDstDepth w v | wrLastErr w v | wrFaultAddr w v | conv w v | wrConvRgb w v
  | wrConvPix w v => rfl
  | rsv0002C w a | rsv0003C w a =>
    cases a with
    | read => rfl
    | write v => simp only [encode, RsvAccess.dir, RsvAccess.lines]; rfl
  | rdPal index w | wrPal index w v =>
    simp only [encode, decode, decodeMmio, BitVec.getLsbD_append, BitVec.extractLsb'_append_eq_ite]
    simp
  | rdGrid off w | wrGrid off w v =>
    simp only [encode, decode, decodeMmio, BitVec.getLsbD_append, BitVec.extractLsb'_append_eq_right]
    simp
  | rsv00040 off w a | rsv00080 off w a | rsv00100 off w a | rsv00200 off w a | rsv00800 off w a
  | rsv01000 off w a | rsv02000 off w a | rsv04000 off w a | rsv08000 off w a =>
    simp only [encode, decode, decodeMmio, BitVec.getLsbD_append, BitVec.extractLsb'_append_eq_ite]
    simp [access_of_dir]

/-! ## Encoding a decoded transaction -/

theorem getLsbD_iff_div (key : BitVec 18) (k : Nat) : key.getLsbD k = true ↔ key.toNat / 2 ^ k % 2 = 1 := by
  rw [BitVec.getLsbD, Nat.testBit_eq_decide_div_mod_eq, decide_eq_true_eq]

/-- Bit 17 of a key is what lies above its window offset (R74). -/
theorem key_div_eq_dir (key : BitVec 18) : key.toNat / 0x20000 = (key.getLsbD 17).toNat := by
  have hdir := getLsbD_iff_div key 17
  cases hb : key.getLsbD 17 <;> rw [hb] at hdir <;> simp at hdir ⊢ <;> omega

/-- A key is its direction bit over its window offset (R74). -/
theorem key_of_offset {key : BitVec 18} {off : BitVec 17} (h : off.toNat = key.toNat % 0x20000) :
    BitVec.ofBool (key.getLsbD 17) ++ off = key := by
  have hdir := key_div_eq_dir key
  apply BitVec.eq_of_toNat_eq
  rw [toNat_append_eq, h, BitVec.toNat_ofBool]
  omega

/-- Where the decoding of a key gives an instruction, encoding it gives the transaction back. -/
def Reencodes (key : BitVec 18) (w : Width) (v : Word) (x : Except DecodeError Instr) : Prop :=
  ∀ i, x = .ok i → encode i = .mmio key w (if key.getLsbD 17 then v else 0)

section Reencodes

variable {key : BitVec 18} {w : Width} {v : Word}

theorem reencodes_ok {i : Instr} (h : encode i = .mmio key w (if key.getLsbD 17 then v else 0)) :
    Reencodes key w v (.ok i) := by
  rintro _ ⟨⟩
  exact h

theorem reencodes_error (e : DecodeError) : Reencodes key w v (.error e) := by
  rintro _ ⟨⟩

/-- The decoder tests the bits of the key one after the other; a proof about its branches has them as numbers. -/
theorem reencodes_bit {k : Nat} {x y : Except DecodeError Instr}
    (hx : key.toNat / 2 ^ k % 2 = 1 → Reencodes key w v x)
    (hy : key.toNat / 2 ^ k % 2 ≠ 1 → Reencodes key w v y) :
    Reencodes key w v (if key.getLsbD k then x else y) := by
  split
  case isTrue h => exact hx ((getLsbD_iff_div key k).1 h)
  case isFalse h => exact hy (mt (getLsbD_iff_div key k).2 h)

/-- A pair of rows that share an offset: bit 17 chooses the write or the read. -/
theorem reencodes_pair {wr rd : Instr} {wrKey rdKey : BitVec 18} (hwr : encode wr = .mmio wrKey w v)
    (hrd : encode rd = .mmio rdKey w 0) (hw : key.getLsbD 17 = true → wrKey = key)
    (hr : key.getLsbD 17 = false → rdKey = key) :
    Reencodes key w v (.ok (if key.getLsbD 17 then wr else rd)) := by
  apply reencodes_ok
  cases hb : key.getLsbD 17 with
  | false => rw [hr hb] at hrd; exact hrd
  | true => rw [hw hb] at hwr; exact hwr

theorem reencodes_grid (h : key.toNat / 2 ^ 16 % 2 = 1) :
    Reencodes key w v (.ok (if key.getLsbD 17 then .wrGrid (key.extractLsb' 0 16) w v
      else .rdGrid (key.extractLsb' 0 16) w)) := by
  have hdir := key_div_eq_dir key
  refine reencodes_pair rfl rfl (fun hb => ?_) fun hb => ?_
  all_goals
    rw [hb] at hdir
    apply BitVec.eq_of_toNat_eq
    rw [toNat_append_eq]
    simp at hdir ⊢
    omega

/-- The index of a palette key is bits 9:2, and bits 1:0 are 0 (R148; log 25). -/
theorem reencodes_palette (h : key.toNat % 0x20000 / 0x400 = 1) :
    Reencodes key w v (if key.extractLsb' 0 2 = 0 then
      .ok (if key.getLsbD 17 then .wrPal (key.extractLsb' 2 8) w v else .rdPal (key.extractLsb' 2 8) w)
      else .error (.noRow key)) := by
  have hdir := key_div_eq_dir key
  split
  case isFalse => exact reencodes_error _
  case isTrue hz =>
    have hlow : key.toNat % 4 = 0 := by simpa using congrArg BitVec.toNat hz
    refine reencodes_pair rfl rfl (fun hb => ?_) fun hb => ?_
    all_goals
      rw [hb] at hdir
      apply BitVec.eq_of_toNat_eq
      rw [toNat_append_eq, toNat_append_eq]
      simp [Nat.shiftRight_eq_div_pow] at hdir ⊢
      omega

theorem reencodes_register (h : key.toNat % 0x20000 < 0x40) :
    Reencodes key w v (decodeRegister key (key.getLsbD 17) w v
      (if key.getLsbD 17 then .write v else .read)) := by
  have hkey (n : Nat) (hn : (key.extractLsb' 0 6).toNat = n) :
      BitVec.ofBool (key.getLsbD 17) ++ BitVec.ofNat 17 n = key := by
    apply key_of_offset
    rw [← hn]
    simp
    omega
  unfold decodeRegister
  split
  case h_17 => exact reencodes_error _
  all_goals
    have hoff := hkey _ ‹_›
    apply reencodes_ok
    cases hb : key.getLsbD 17 <;> rw [hb] at hoff <;> exact congrArg (Txn.mmio · w _) hoff

theorem reencodes_decodeMmio (key : BitVec 18) (w : Width) (v : Word) :
    Reencodes key w v (decodeMmio key w v) := by
  refine reencodes_bit (fun _ => ?grid) fun _ => reencodes_bit (fun _ => ?rsv08000) fun _ =>
    reencodes_bit (fun _ => ?rsv04000) fun _ => reencodes_bit (fun _ => ?rsv02000) fun _ =>
    reencodes_bit (fun _ => ?rsv01000) fun _ => reencodes_bit (fun _ => ?rsv00800) fun _ =>
    reencodes_bit (fun _ => ?palette) fun _ => reencodes_bit (fun _ => ?rsv00200) fun _ =>
    reencodes_bit (fun _ => ?rsv00100) fun _ => reencodes_bit (fun _ => ?rsv00080) fun _ =>
    reencodes_bit (fun _ => ?rsv00040) fun _ => ?register
  case grid => exact reencodes_grid ‹_›
  case palette => exact reencodes_palette (by omega)
  case register => exact reencodes_register (by omega)
  all_goals
    apply reencodes_ok
    rw [encode, dir_access, lines_access, key_of_offset]
    rw [toNat_append_eq]
    simp
    omega

end Reencodes

/-- Settles O4: along the decoder's tests, the bits tested and the operand read make up the key. -/
theorem encodeOfDecodeIsTheTransaction : Obligations.EncodeOfDecodeIsTheTransaction :=
  reencodes_decodeMmio

/-! ## The opcode table -/

section Row

variable {r : MmioRow} {key : BitVec 18}

/-- A matching key has the row's pattern in every field that the mask covers (R74). -/
theorem extractLsb'_of_matchesKey (h : r.matchesKey key = true) (start len : Nat)
    (hm : r.mask.extractLsb' start len = BitVec.allOnes len) :
    key.extractLsb' start len = r.pattern.extractLsb' start len := by
  rw [← eq_of_beq h, BitVec.extractLsb'_and, hm, BitVec.and_allOnes]

theorem getLsbD_of_matchesKey (h : r.matchesKey key = true) {b : Nat} (hb : r.mask.getLsbD b = true) :
    key.getLsbD b = r.pattern.getLsbD b := by
  rw [← eq_of_beq h, BitVec.getLsbD_and, hb, Bool.and_true]

theorem set_of_matchesKey (h : r.matchesKey key = true) (b : Nat)
    (hb : r.mask.getLsbD b = true ∧ r.pattern.getLsbD b = true) : key.getLsbD b = true := by
  obtain ⟨hmask, hset⟩ := hb
  rw [getLsbD_of_matchesKey h hmask, hset]

theorem clear_of_matchesKey (h : r.matchesKey key = true) (b : Nat)
    (hb : r.mask.getLsbD b = true ∧ r.pattern.getLsbD b = false) : key.getLsbD b = false := by
  obtain ⟨hmask, hclear⟩ := hb
  rw [getLsbD_of_matchesKey h hmask, hclear]

/-- The key decodes, to an instruction of the row `r`. -/
def DecodesTo (r : MmioRow) (key : BitVec 18) (w : Width) (v : Word) : Prop :=
  ∃ i, decode (.mmio key w v) = .ok i ∧ i.mnemonic = r.mnemonic ∧ i.width = w

/-- The mask of a register row is the whole key. -/
theorem decodesTo_of_register (hr : r ∈ registerRows) (h : r.matchesKey key = true) (w : Width) (v : Word) :
    DecodesTo r key w v := by
  have hmask : ∀ r ∈ registerRows, r.mask = BitVec.allOnes 18 := by decide
  obtain rfl : key = r.pattern := by rw [← eq_of_beq h, hmask r hr, BitVec.and_allOnes]
  clear h hmask
  fin_cases hr
  all_goals exact ⟨_, rfl, rfl, rfl⟩

/-- The mask of a window row covers every bit the decoder tests on the way to it. -/
theorem decodesTo_of_window (hr : r ∈ windowRows) (h : r.matchesKey key = true) (w : Width) (v : Word) :
    DecodesTo r key w v := by
  have hset := set_of_matchesKey h
  have hclear := clear_of_matchesKey h
  have hfield := extractLsb'_of_matchesKey h
  unfold DecodesTo
  fin_cases hr
  all_goals
    simp (disch := decide) only [decode, decodeMmio, decodeRegister, hset, hclear, hfield,
      Bool.false_eq_true, ↓reduceIte]
    exact ⟨_, rfl, rfl, rfl⟩

theorem decodesTo_of_matchesKey (hr : r ∈ mmioRows) (h : r.matchesKey key = true) (w : Width) (v : Word) :
    DecodesTo r key w v :=
  (List.mem_append.1 hr).elim (decodesTo_of_register · h w v) (decodesTo_of_window · h w v)

end Row

/-- Settles O5: a key that matches a row decodes, so a rejected key matches none. -/
theorem decoderFollowsTheOpcodeTable : Obligations.DecoderFollowsTheOpcodeTable := by
  refine fun key w v => ⟨fun r hr h => decodesTo_of_matchesKey hr h w v, fun e he => ⟨?error, fun r hr => ?noRow⟩⟩
  case error =>
    have hkey := decodeMmio_followsKey key w v
    rw [show decodeMmio key w v = .error e from he] at hkey
    obtain ⟨hrow, -⟩ := hkey
    exact hrow
  case noRow =>
    by_contra hne
    obtain ⟨i, hi, -⟩ := decodesTo_of_matchesKey hr (Bool.eq_true_of_not_eq_false hne) w v
    rw [he] at hi
    cases hi

/-! ## Command words -/

theorem ofWord_opcode (c : Command) : Command.ofWord (c.opcode.setWidth 32) = some c := by
  cases c <;> rfl

/-- A word with a bit of RSV set, or with an unassigned OP, names no command (R75, R76). -/
theorem ofWord_of_illegal {v : Word} (h : 16 ≤ v.toNat ∨ 7 ≤ v.toNat % 16) : Command.ofWord v = none := by
  cases hc : Command.ofWord v with
  | none => rfl
  | some c =>
    rw [eq_opcode_of_ofWord hc] at h
    cases c <;> simp [Command.opcode] at h

/-- The answer to an illegal word: E_CMD and cause 1 recorded (R75), the bus OK (log 26). -/
theorem answer_illegal_eq (v : Word) (s : State) :
    ({ raise .cmdIllegal (cmdOp v) s with reply := .done } : State) =
      { s with status := s.status ||| 0x00010000, lastErrOp := v.setWidth 4, lastErrCause := 1, reply := .done } := by
  rw [BitVec.setWidth_eq_extractLsb' (by decide)]
  rfl

theorem hostTurn_illegal {v : Word} (h : Command.ofWord v = none) (s : State) :
    hostTurn (.cmd v) s = .next { raise .cmdIllegal (cmdOp v) s with reply := .done } := by
  simp only [hostTurn, decode, decodeCmd, h]

theorem exec_wrCmd_illegal {v : Word} (h : Command.ofWord v = none) (s : State) :
    exec (.wrCmd .w32 v) s = .next { raise .cmdIllegal (cmdOp v) s with reply := .done } := by
  have hexec := writeRegister_w32 (cmdWrite v) s
  rw [cmdWrite, h] at hexec
  exact hexec

/-- Settles O6: an illegal word names no command, and both formats record it in the same way. -/
theorem commandWordDecodingIsTotal : Obligations.CommandWordDecodingIsTotal := by
  refine ⟨fun v s rest h ht => ?cmd, fun v s h => ?wrCmd, rfl, rfl, rfl, rfl, rfl, rfl, rfl⟩
  case cmd => rw [step_host ht, hostTurn_illegal (ofWord_of_illegal h), answer_illegal_eq]
  case wrCmd => rw [exec_wrCmd_illegal (ofWord_of_illegal h), answer_illegal_eq]

/-! ## Commands -/

theorem exec_instr (c : Command) (s : State) : exec c.instr s = answerCommand c s := by
  cases c <;> rfl

/-- A write of a legal word to CMD is its command (R70, R140). -/
theorem exec_wrCmd_opcode (c : Command) (s : State) :
    exec (.wrCmd .w32 (c.opcode.setWidth 32)) s = exec c.instr s := by
  have hexec := writeRegister_w32 (cmdWrite (c.opcode.setWidth 32)) s
  rw [cmdWrite, ofWord_opcode] at hexec
  rw [exec_instr]
  exact hexec

/-- Settles O7: the opcodes of R71, command by command. -/
theorem writeOfCommandWordIsTheCommand : Obligations.WriteOfCommandWordIsTheCommand := fun s =>
  ⟨exec_wrCmd_opcode .nop s, exec_wrCmd_opcode .init s, exec_wrCmd_opcode .clear s,
    exec_wrCmd_opcode .buildPal s, exec_wrCmd_opcode .step s, exec_wrCmd_opcode .render s,
    exec_wrCmd_opcode .effect s⟩

/-- The latched MULT and DIV are PARAM's halves (R72, R73). -/
theorem latchOperands_eq_latched (c : Command) (s : State) : latchOperands c s = latched c s := by
  simp [latchOperands, latched, State.mult, State.div, BitVec.extractLsb', Nat.shiftRight_eq_div_pow]

theorem diffuses_iff (c : Command) : Command.diffuses c = true ↔ c = .step ∨ c = .effect := by
  cases c <;> decide

/-- Settles O16: an acceptable command on an idle block takes the branch of acceptance. -/
theorem acceptanceLatchesOperandsAndStartsTheEngine :
    Obligations.AcceptanceLatchesOperandsAndStartsTheEngine := by
  intro c s hb ha
  refine ⟨exec_wrCmd_opcode c s, ?_⟩
  rw [exec_instr, answerCommand_of_acceptable hb ha, accept_eq, latchOperands_eq_latched]
  simp only [diffuses_iff]
  cases c <;> rfl

/-! ## Sample words -/

/-- Settles O2: the decoder computes each word's instruction. -/
theorem sampleWordsDecode : Obligations.SampleWordsDecode :=
  ⟨rfl, rfl, rfl, rfl, rfl, rfl, rfl, rfl, rfl, rfl, rfl⟩

end Sys2Proof.Machine
end

section
/-! PROOF. The colour converter: its integer form against exact rational arithmetic, the packed and the swapped
pixel, the converter registers, and the palette entries (10_state.md R36 to R38; 40_color_palette.md R100 to R104,
R107). -/

namespace Sys2Proof.Machine

open Sys2Proof.Claims

/-! ## The sextant -/

section Sextant

variable {α β : Type} (k : Nat)

/-- The sextant only places the components, so a function of each may be applied before or after. -/
theorem sextantSelect_map (f : α → β) (c x z : α) :
    (f (sextantSelect k c x z).1, f (sextantSelect k c x z).2.1, f (sextantSelect k c x z).2.2) =
      sextantSelect k (f c) (f x) (f z) := by
  unfold sextantSelect
  split <;> rfl

theorem sextantSelect_const (c : α) : sextantSelect k c c c = (c, c, c) := by
  unfold sextantSelect
  split <;> rfl

theorem sextantSelect_forall {p : α → Prop} {c x z : α} (hc : p c) (hx : p x) (hz : p z) :
    p (sextantSelect k c x z).1 ∧ p (sextantSelect k c x z).2.1 ∧ p (sextantSelect k c x z).2.2 := by
  unfold sextantSelect
  split <;> exact ⟨‹_›, ‹_›, ‹_›⟩

end Sextant

/-! ## One component of the integer form

C, X and 0 are `(n + 128) / 256` of the chroma for `n = 128`, `2t - 128` and `-128`, so what R100 needs of the
three components is shown once, for every `n` between them. -/

/-- The component with the weight `n` (R100, integer form). -/
def hslLevel (n : Int) (s l : Byte) : Int := l.toNat + n * hslSpan l * s.toNat / 65280

/-- The weight of X (R100, integer form). -/
def midWeight (h : Byte) : Int := 2 * hslRamp h - 128

theorem hslComponents_eq (h s l : Byte) :
    hslComponents h s l =
      sextantSelect (hslSextant h) (hslLevel 128 s l) (hslLevel (midWeight h) s l) (hslLevel (-128) s l) := rfl

theorem hslToRgb_eq (h s l : Byte) :
    hslToRgb h s l = sextantSelect (hslSextant h) (BitVec.ofInt 8 (hslLevel 128 s l))
      (BitVec.ofInt 8 (hslLevel (midWeight h) s l)) (BitVec.ofInt 8 (hslLevel (-128) s l)) :=
  sextantSelect_map (hslSextant h) (BitVec.ofInt 8) _ _ _

/-! ## Exact rational arithmetic -/

/-- The chroma `C` of the reference pseudocode (R100). -/
def rationalChroma (s l : Byte) : ℚ :=
  (1 - |2 * ((l.toNat : ℚ) / 255) - 1|) * ((s.toNat : ℚ) / 255)

/-- The factor `1 - |f - 1|` of X, for a hue of `q` sextants (R100). -/
def rationalRamp (q : ℚ) : ℚ := 1 - |q - 2 * (⌊q / 2⌋ : ℚ) - 1|

/-- The component that has `v` before the offset `m` is added (R100). -/
def rationalLevel (v : ℚ) (s l : Byte) : Int := ⌊255 * (v + ((l.toNat : ℚ) / 255 - rationalChroma s l / 2))⌋

theorem hslRational_eq (h s l : Byte) :
    hslRational h s l = sextantSelect ⌊6 * (h.toNat : ℚ) / 256⌋.toNat (rationalLevel (rationalChroma s l) s l)
      (rationalLevel (rationalChroma s l * rationalRamp (6 * (h.toNat : ℚ) / 256)) s l) (rationalLevel 0 s l) :=
  sextantSelect_map _ (fun v => rationalLevel v s l) _ _ _

/-- The hue in sextants is a quotient of naturals. -/
theorem hue_in_sextants (h : Byte) : 6 * (h.toNat : ℚ) / 256 = ((3 * h.toNat : Nat) : ℚ) / (128 : Nat) := by
  push_cast
  ring

theorem rationalSextant_eq (h : Byte) : ⌊6 * (h.toNat : ℚ) / 256⌋.toNat = hslSextant h := by
  rw [hue_in_sextants, Rat.floor_natCast_div_natCast, hslSextant]
  rfl

theorem rationalChroma_eq (s l : Byte) : rationalChroma s l = (hslSpan l : ℚ) * s.toNat / 65025 := by
  have habs : |2 * ((l.toNat : ℚ) / 255) - 1| = |2 * (l.toNat : ℚ) - 255| / 255 := by
    rw [show 2 * ((l.toNat : ℚ) / 255) - 1 = (2 * (l.toNat : ℚ) - 255) / 255 by ring, abs_div,
      abs_of_pos (by norm_num : (0 : ℚ) < 255)]
  rw [rationalChroma, habs, hslSpan]
  push_cast [Nat.cast_natAbs]
  ring

/-- `f` is the hue's remainder over two sextants, so the ramp is a whole number of 128ths. -/
theorem rationalRamp_eq (h : Byte) : rationalRamp (6 * (h.toNat : ℚ) / 256) = (hslRamp h : ℚ) / 128 := by
  have hfloor : ⌊6 * (h.toNat : ℚ) / 256 / 2⌋ = ((3 * h.toNat / 256 : Nat) : Int) := by
    rw [show 6 * (h.toNat : ℚ) / 256 / 2 = ((3 * h.toNat : Nat) : ℚ) / (256 : Nat) by push_cast; ring,
      Rat.floor_natCast_div_natCast]
    rfl
  have hsplit : (3 * h.toNat : ℚ) = 256 * ((3 * h.toNat / 256 : Nat) : ℚ) + ((3 * h.toNat % 256 : Nat) : ℚ) := by
    exact_mod_cast (Nat.div_add_mod (3 * h.toNat) 256).symm
  have hfold : 6 * (h.toNat : ℚ) / 256 - 2 * ((3 * h.toNat / 256 : Nat) : ℚ) - 1 =
      (((3 * h.toNat % 256 : Nat) : ℚ) - 128) / 128 := by linarith
  rw [rationalRamp, hfloor, Int.cast_natCast, hfold, abs_div, abs_of_pos (by norm_num : (0 : ℚ) < 128), hslRamp]
  generalize 3 * h.toNat % 256 = r
  push_cast [Nat.cast_natAbs]
  ring

/-- With `(n + 128) / 256` of the chroma, the rational component is the integer one of weight `n`. -/
theorem rationalLevel_eq (n : Int) (s l : Byte) {v : ℚ} (hv : v = (n + 128) / 256 * rationalChroma s l) :
    rationalLevel v s l = hslLevel n s l := by
  have hexact : 255 * (v + ((l.toNat : ℚ) / 255 - rationalChroma s l / 2)) =
      ((l.toNat : Int) : ℚ) + ((n * hslSpan l * s.toNat : Int) : ℚ) / (65280 : Nat) := by
    rw [hv, rationalChroma_eq]
    push_cast
    ring
  rw [rationalLevel, hexact, Int.floor_intCast_add, Rat.floor_intCast_div_natCast]
  rfl

/-- Settles O51: component by component, after the sextants agree. -/
theorem converterEqualsTheRationalReference : Obligations.ConverterEqualsTheRationalReference := by
  intro h s l
  have hmax : rationalLevel (rationalChroma s l) s l = hslLevel 128 s l :=
    rationalLevel_eq 128 s l (by push_cast; ring)
  have hmid : rationalLevel (rationalChroma s l * rationalRamp (6 * (h.toNat : ℚ) / 256)) s l =
      hslLevel (midWeight h) s l :=
    rationalLevel_eq _ s l (by rw [rationalRamp_eq, midWeight]; push_cast; ring)
  have hmin : rationalLevel 0 s l = hslLevel (-128) s l := rationalLevel_eq (-128) s l (by push_cast; ring)
  rw [hslRational_eq, hslComponents_eq, rationalSextant_eq, hmax, hmid, hmin]

/-! ## The components are bytes -/

/-- A component is in the range of a byte. -/
def IsByte (c : Int) : Prop := 0 ≤ c ∧ c ≤ 255

/-- The span reaches from the lightness to the nearer end of the range, both ways. -/
theorem hslSpan_bounds (l : Byte) :
    0 ≤ hslSpan l ∧ hslSpan l ≤ 2 * l.toNat ∧ hslSpan l ≤ 2 * (255 - (l.toNat : Int)) := by
  have := l.isLt
  unfold hslSpan
  omega

theorem midWeight_bounds (h : Byte) : -128 ≤ midWeight h ∧ midWeight h ≤ 128 := by
  have := Nat.mod_lt (3 * h.toNat) (show 0 < 256 by decide)
  unfold midWeight hslRamp
  omega

theorem isByte_hslLevel {n : Int} (hn : -128 ≤ n ∧ n ≤ 128) (s l : Byte) : IsByte (hslLevel n s l) := by
  obtain ⟨hlow, hhigh⟩ := hn
  obtain ⟨hspan, hl, hu⟩ := hslSpan_bounds l
  have hs : (s.toNat : Int) ≤ 255 := by have := s.isLt; omega
  have hprod : 0 ≤ hslSpan l * s.toNat ∧ hslSpan l * s.toNat ≤ hslSpan l * 255 :=
    ⟨by positivity, mul_le_mul_of_nonneg_left hs hspan⟩
  have hbelow : -128 * (hslSpan l * s.toNat) ≤ n * (hslSpan l * s.toNat) :=
    mul_le_mul_of_nonneg_right hlow hprod.1
  have habove : n * (hslSpan l * s.toNat) ≤ 128 * (hslSpan l * s.toNat) :=
    mul_le_mul_of_nonneg_right hhigh hprod.1
  rw [hslLevel, mul_assoc]
  constructor <;> omega

theorem isByte_hslComponents (h s l : Byte) :
    IsByte (hslComponents h s l).1 ∧ IsByte (hslComponents h s l).2.1 ∧ IsByte (hslComponents h s l).2.2 :=
  sextantSelect_forall (hslSextant h) (isByte_hslLevel (by decide) s l)
    (isByte_hslLevel (midWeight_bounds h) s l) (isByte_hslLevel (by decide) s l)

theorem toNat_ofInt_of_isByte {c : Int} (h : IsByte c) : ((BitVec.ofInt 8 c).toNat : Int) = c := by
  obtain ⟨hl, hu⟩ := h
  rw [BitVec.toNat_ofInt]
  omega

/-! ## Grey, black and white -/

theorem hslLevel_grey (n : Int) (l : Byte) : hslLevel n 0 l = l.toNat := by simp [hslLevel]

theorem hslLevel_of_span_zero (n : Int) (s : Byte) {l : Byte} (h : hslSpan l = 0) :
    hslLevel n s l = l.toNat := by simp [hslLevel, h]

/-- Where every weight gives the lightness, the colour is a grey. -/
theorem hslToRgb_of_level (h : Byte) {s l : Byte} (hlevel : ∀ n, hslLevel n s l = l.toNat) :
    hslToRgb h s l = (l, l, l) := by
  rw [hslToRgb_eq, hlevel, hlevel, hlevel, sextantSelect_const, BitVec.ofInt_natCast, BitVec.ofNat_toNat,
    BitVec.setWidth_eq]

theorem hslToRgb_grey (h l : Byte) : hslToRgb h 0 l = (l, l, l) :=
  hslToRgb_of_level h fun n => hslLevel_grey n l

theorem hslToRgb_black (h s : Byte) : hslToRgb h s 0 = (0, 0, 0) :=
  hslToRgb_of_level h fun n => hslLevel_of_span_zero n s (by decide)

theorem hslToRgb_white (h s : Byte) : hslToRgb h s 255 = (255, 255, 255) :=
  hslToRgb_of_level h fun n => hslLevel_of_span_zero n s (by decide)

/-- Settles O52: each component is the lightness and at most half the span, which the range of a byte holds. -/
theorem converterComponentsAreBytes : Obligations.ConverterComponentsAreBytes := by
  refine ⟨fun h s l c hc => ?range, fun h s l => ?narrow, hslToRgb_grey, hslToRgb_black, hslToRgb_white, by decide⟩
  all_goals obtain ⟨hr, hg, hb⟩ := isByte_hslComponents h s l
  case range =>
    obtain rfl | rfl | rfl := hc
    · exact hr
    · exact hg
    · exact hb
  case narrow =>
    exact Prod.ext (toNat_ofInt_of_isByte hr)
      (Prod.ext (toNat_ofInt_of_isByte hg) (toNat_ofInt_of_isByte hb))

/-! ## The packed and the swapped pixel -/

theorem packRgb565_toNat (r g b : Byte) :
    (packRgb565 r g b).toNat = 0x800 * (r.toNat / 8) + 0x20 * (g.toNat / 4) + b.toNat / 8 := by
  have := r.isLt
  have := g.isLt
  have := b.isLt
  simp only [packRgb565, toNat_append_eq, BitVec.extractLsb'_toNat, Nat.shiftRight_eq_div_pow]
  omega

theorem swap16_toNat (p : Half) : (swap16 p).toNat = 0x100 * (p.toNat % 0x100) + p.toNat / 0x100 := by
  have := p.isLt
  simp only [swap16, toNat_append_eq, BitVec.extractLsb'_toNat, Nat.shiftRight_eq_div_pow]
  omega

theorem swap16_swap16 (p : Half) : swap16 (swap16 p) = p := by
  have := p.isLt
  apply BitVec.eq_of_toNat_eq
  rw [swap16_toNat, swap16_toNat]
  omega

/-- Settles O53: both words are concatenations of fields, read as numbers. -/
theorem packAndSwapPlaceTheirFields : Obligations.PackAndSwapPlaceTheirFields :=
  ⟨packRgb565_toNat, by decide, by decide, by decide, swap16_toNat, swap16_swap16, by decide⟩

/-! ## CONV -/

/-- A 32-bit write of `v` to CONV_HSL (R103). -/
theorem exec_conv (s : State) (v : Word) :
    exec (.conv .w32 v) s = .next { s with convHsl := v.setWidth 24, reply := .done } := by
  rw [BitVec.setWidth_eq_extractLsb' (by decide)]
  rfl

/-- The colour shown after the write is that of the fields of `v` (R36, R37). -/
theorem convColor_of_convHsl {t : State} {v : Word} (h : t.convHsl = v.setWidth 24) :
    t.convColor = convertWith t.params.converter (BitVec.ofNat 8 v.toNat) (BitVec.ofNat 8 (v.toNat / 0x100))
      (BitVec.ofNat 8 (v.toNat / 0x10000)) := by
  have hfield (d : Nat) (hd : d = 1 ∨ d = 0x100 ∨ d = 0x10000) :
      BitVec.ofNat 8 (t.convHsl.toNat / d) = BitVec.ofNat 8 (v.toNat / d) := by
    apply BitVec.eq_of_toNat_eq
    rw [h, BitVec.toNat_setWidth, BitVec.toNat_ofNat, BitVec.toNat_ofNat]
    obtain rfl | rfl | rfl := hd <;> omega
  have hhue := hfield 1 (.inl rfl)
  rw [Nat.div_one, Nat.div_one] at hhue
  rw [convColor_eq, hhue, hfield 0x100 (.inr (.inl rfl)), hfield 0x10000 (.inr (.inr rfl))]

/-- Settles O54: the converter registers are functions of CONV_HSL, which the write has just stored. -/
theorem convShowsItsColourAtOnce : Obligations.ConvShowsItsColourAtOnce := by
  refine ⟨fun v => rfl, fun s v => ⟨_, exec_conv s v, rfl, fun r g b h => ?reads⟩,
    ⟨_, exec_conv State.reset 0x0080FF00, by decide, by decide⟩⟩
  have hc : ({ s with convHsl := v.setWidth 24, reply := .done } : State).convColor = (r, g, b) :=
    (convColor_of_convHsl rfl).trans h
  exact ⟨exec_rdConvRgb (convRgb_eq hc), exec_rdConvPix (convPix_eq hc)⟩

/-! ## Palette entries -/

/-- From 128 on the lightness is its maximum (R104). -/
theorem paletteLightness_of_ge {x : Byte} (h : 128 ≤ x.toNat) : paletteLightness x = 255 := by
  rw [paletteLightness, Nat.min_eq_left (by omega)]
  rfl

/-- From 126 on every entry is white: the lightness is its maximum from 128 on, and what 126 and 127 lack of it
is in the bits R101 drops (R107). -/
theorem palEntry_white {x : Byte} (h : 126 ≤ x.toNat) : palEntry x = 0xFFFF := by
  by_cases hx : 128 ≤ x.toNat
  · rw [palEntry, palEntryOf, paletteLightness_of_ge hx, hslToRgb_white]
    rfl
  · obtain rfl | rfl : x = 126 ∨ x = 127 := by bv_omega
    · decide
    · decide

/-- Settles O55: the entries below 126 of the table are computed, the others are white. -/
theorem paletteEntryValues : Obligations.PaletteEntryValues :=
  ⟨by decide, by decide, by decide, by decide, by decide, by decide, palEntry_white (by decide),
    palEntry_white (by decide), palEntry_white (by decide), fun _ => palEntry_white⟩

end Sys2Proof.Machine
end

section
/-! PROOF. The palette: BUILD_PAL run to completion, and what keeps a built palette (40_color_palette.md R104 to
R106; 44_control_and_access.md R140, R141). -/

namespace Sys2Proof.Machine

open Sys2Proof.Claims

/-! ## A built palette stays -/

theorem builtEntry_eq_swap16 (s : State) (x : Byte) :
    s.builtEntry x = swap16 (packedColor s.params x.toNat) := rfl

/-- The palette loop writes the values that are there already, and no other turn of the engine writes one. -/
theorem EngineCase.paletteBuilt {s t : State} (h : EngineCase s t) (hs : PaletteBuilt s) : PaletteBuilt t := by
  cases h with
  | entry i =>
    intro x
    refine (read_builtEntry_write s i x).trans ?_
    split
    · rfl
    · exact hs x
  | advanced i hp hi u hu => exact hu.paletteBuilt hs
  | drawn i hp hi u hu => exact hu.paletteBuilt hs
  | aborted i hp hi u hu => exact hu.paletteBuilt hs
  | completed => exact paletteBuilt_congr (complete_params s) (by rw [complete_frame]) hs
  | idle | built | zeroed | cleared | stepped | rendered => exact hs

theorem StepCase.paletteBuilt {s t : State} (h : StepCase s t) (hreset : ¬ resetNext s) (hs : PaletteBuilt s) :
    PaletteBuilt t := by
  cases h with
  | aside h => exact h.paletteBuilt hs
  | stored h => exact h.paletteBuilt hs
  | accepted txn hn i hd c hi hb ha ts r =>
    exact paletteBuilt_congr (accept_params c { s with turns := ts }) (accept_pal c { s with turns := ts }) hs
  | engine hn ts d h => exact h.paletteBuilt hs
  | reset f rest hn => exact absurd ⟨f, rest, hn⟩ hreset

/-- Settles O39: only BUILD_PAL and INIT write the palette, and they write what it holds. -/
theorem builtPaletteStaysUntilReset : Obligations.BuiltPaletteStaysUntilReset := by
  intro s t hs h hreset x
  have hx := (step_stepCase h).paletteBuilt hreset hs x
  rwa [builtEntry_eq_swap16, step_params h] at hx

/-! ## Any command -/

/-- A command on a busy block is refused: E_CMD and cause 2 recorded, nothing else (R140, R161; log 26). -/
theorem exec_instr_of_busy (c : Command) {s : State} (hb : s.busy = true) :
    exec c.instr s =
      .next { s with status := s.status ||| 0x00010000, lastErrOp := c.opcode, lastErrCause := 2,
                     reply := .done } := by
  rw [exec_instr, answerCommand, issue, if_pos hb]
  rfl

theorem encodedAndRefusedWhileBusy_opcode (c : Command) :
    encodedAndRefusedWhileBusy c (c.opcode.setWidth 32) := by
  refine ⟨?_, fun s hb => exec_instr_of_busy c hb⟩
  simp only [decode, decodeCmd, ofWord_opcode]

/-- The last turn of a command completes it (R141). -/
theorem runsTo_complete {s : State} (ht : s.turns = []) (hp : s.pos = .finish) : runsTo 1 s (complete s) := by
  have hstep : step s = .next (complete s) := by
    rw [step_nil ht]
    simp only [autonomousTurn, hp, engineTurn]
  exact runsTo_succ hstep (runsTo_zero _)

/-! ## The palette loop -/

/-- The palette `m` once the entries below `n` are built (R105). Irreducible: no proof may run the loop. -/
@[irreducible] def builtEntries (p : Params) (m : List (Nat × Half)) (n : Nat) : List (Nat × Half) :=
  (List.range n).foldl
    (fun l i => Memory.write l i (palEntryOf (convertWith p.converter) (BitVec.ofNat 8 i))) m

theorem builtEntries_zero (p : Params) (m : List (Nat × Half)) : builtEntries p m 0 = m := by
  rw [builtEntries, List.range_zero, List.foldl_nil]

/-- One more entry is what one more turn of the loop writes. -/
theorem builtEntries_succ (s : State) (m : List (Nat × Half)) (n : Nat) :
    builtEntries s.params m (n + 1) =
      Memory.write (builtEntries s.params m n) n (s.builtEntry (BitVec.ofNat 8 n)) := by
  rw [builtEntries, builtEntries, List.range_succ, List.foldl_append]
  rfl

theorem read_builtEntries_of_lt (s : State) {n : Nat} {x : Byte} (h : x.toNat < n) :
    Memory.read (builtEntries s.params s.pal n) x.toNat = some (s.builtEntry x) := by
  induction n with
  | zero => omega
  | succ n ih =>
    rw [builtEntries_succ]
    refine (read_builtEntry_write { s with pal := builtEntries s.params s.pal n } n x).trans ?_
    split
    · rfl
    · exact ih (by omega)

theorem read_builtEntries_of_ge (s : State) {n k : Nat} (h : n ≤ k) :
    Memory.read (builtEntries s.params s.pal n) k = Memory.read s.pal k := by
  induction n with
  | zero => rw [builtEntries_zero]
  | succ n ih =>
    rw [builtEntries_succ]
    exact (read_write_other _ _ _ _ (by omega)).trans (ih (by omega))

theorem step_pal {s : State} {i : Nat} (ht : s.turns = []) (hp : s.pos = .pal i) :
    step s = .next (palTurn i s) := by
  rw [step_nil ht]
  simp only [autonomousTurn, hp, engineTurn]

/-- `s` in the palette loop, the entries below `n` built. -/
def palLoop (n : Nat) (s : State) : State := { s with pal := builtEntries s.params s.pal n, pos := .pal n }

/-- `n` turns of the palette loop build `n` entries (R105). -/
theorem runsTo_palLoop {s : State} (ht : s.turns = []) (hp : s.pos = .pal 0) {n : Nat} (hn : n ≤ 256) :
    runsTo n s (palLoop n s) := by
  induction n with
  | zero =>
    have hs : s = palLoop 0 s := by rw [palLoop, builtEntries_zero, ← hp]
    exact congrArg _ hs
  | succ n ih =>
    have hturn : step (palLoop n s) = .next (palLoop (n + 1) s) := by
      rw [step_pal (s := palLoop n s) ht rfl, palTurn, if_pos (by omega), palLoop, palLoop, builtEntries_succ]
      rfl
    exact runsTo_add (ih (by omega)) (runsTo_succ hturn (runsTo_zero _))

/-- The whole loop, and the turn that leaves it for the next phase (R105, R143). -/
theorem runsTo_palette {s : State} (ht : s.turns = []) (hp : s.pos = .pal 0) :
    runsTo 257 s { s with pal := builtEntries s.params s.pal 256,
                          pos := if s.lat.op = .init then .clear 0 else .finish } := by
  have hend := step_pal (s := palLoop 256 s) ht rfl
  exact runsTo_add (runsTo_palLoop ht hp le_rfl) (runsTo_succ hend (runsTo_zero _))

/-! ## BUILD_PAL -/

/-- BUILD_PAL has no check of its own (R140). -/
theorem acceptable_buildPal (s : State) : acceptable .buildPal s := by
  simp [acceptable, missesArray, wrongDepth, oddDestination, zeroDivider]

/-- A BUILD_PAL just accepted, with nothing left to come from outside. -/
def buildAccepted (s : State) : State := { accept .buildPal (alone s) with reply := .done }

/-- That BUILD_PAL with every entry built. -/
def entriesBuilt (s : State) : State :=
  { buildAccepted s with pal := builtEntries s.params s.pal 256, pos := .finish }

theorem entriesBuilt_op (s : State) : (entriesBuilt s).lat.op = .buildPal := rfl

theorem exec_buildPal {s : State} (hb : s.busy = false) :
    exec .buildPal (alone s) = .next (buildAccepted s) :=
  answerCommand_of_acceptable (s := alone s) hb (acceptable_buildPal _)

theorem runsTo_entriesBuilt (s : State) : runsTo 258 (buildAccepted s) (complete (entriesBuilt s)) := by
  have hloop : runsTo 257 (buildAccepted s) (entriesBuilt s) := runsTo_palette rfl rfl
  exact runsTo_add (n := 1) hloop (runsTo_complete rfl rfl)

/-- What completion leaves of STATUS: BUSY as before acceptance, PAL_VALID and DONE set (R27, R141). -/
theorem complete_entriesBuilt_status {s : State} (hb : s.busy = false) :
    (complete (entriesBuilt s)).status = s.status ||| 0x00000104 := by
  refine BitVec.eq_of_getLsbD_eq fun b hlt => ?_
  have hdone := flag_complete (entriesBuilt s) b hlt
  have hacc : (entriesBuilt s).flag b = (s.flag b || decide (b = 0)) := flag_accept .buildPal (alone s) b hlt
  have hmask : (0x00000104 : Word).getLsbD b = (decide (b = 2) || decide (b = 8)) := by
    interval_cases b <;> rfl
  rw [hacc, entriesBuilt_op] at hdone
  refine hdone.trans ?_
  rw [BitVec.getLsbD_or, hmask]
  by_cases hz : b = 0
  · subst hz
    simpa [State.busy, State.flag] using hb
  · simp [hz, State.flag, Bool.or_assoc]

theorem complete_entriesBuilt_eq {s : State} (hb : s.busy = false) :
    complete (entriesBuilt s) =
      { alone s with pal := builtEntries s.params s.pal 256, status := s.status ||| 0x00000104,
                     lat := latched .buildPal s, pos := .idle, reply := .done } := by
  rw [complete_frame, complete_entriesBuilt_status hb, ← latchOperands_eq_latched]
  rfl

/-- A palette read of a valid block that is idle (R148). -/
theorem exec_rdPal_of_valid {s : State} {i : Byte} {p : Half} (hb : s.busy = false) (hv : s.palValid = true)
    (hp : Memory.read s.pal i.toNat = some p) :
    exec (.rdPal i .w32) s = .next (answered s (p.setWidth 32)) := by
  have hdata : palData i s = p.setWidth 32 := by simp [palData, hb, hv, State.palEntry, hp]
  have hafter : palAfterRead i s = s := by simp [palAfterRead, hb, hv]
  have hexec : exec (.rdPal i .w32) s = .next { palAfterRead i s with reply := .data (palData i s) } := rfl
  rw [hexec, hdata, hafter]
  rfl

/-- Settles O19: 256 turns build the entries, one leaves the loop and one completes. -/
theorem buildPalFillsEveryEntry : Obligations.BuildPalFillsEveryEntry := by
  refine ⟨encodedAndRefusedWhileBusy_opcode .buildPal, fun s hb =>
    ⟨258, buildAccepted s, complete (entriesBuilt s), exec_buildPal hb, accept_busy _ _, runsTo_entriesBuilt s,
      ?frame, ?entries, ?beyond, fun href => ?sample⟩⟩
  case frame => rw [complete_entriesBuilt_eq hb]
  case entries =>
    rw [complete_entriesBuilt_eq hb]
    exact fun x => read_builtEntries_of_lt s x.isLt
  case beyond =>
    rw [complete_entriesBuilt_eq hb]
    exact fun k => read_builtEntries_of_ge s
  case sample =>
    have hv : (complete (entriesBuilt s)).palValid = true := (complete_palValid _).trans (by simp [entriesBuilt_op])
    have hp : Memory.read (complete (entriesBuilt s)).pal (64 : Byte).toNat = some (palEntry 64) := by
      rw [complete_frame, ← builtEntry_reference href]
      exact read_builtEntries_of_lt s (by decide)
    have hread := exec_rdPal_of_valid (complete_busy _) hv hp
    rwa [show (palEntry 64).setWidth 32 = (0x0000E0FB : Word) by decide] at hread

end Sys2Proof.Machine
end

section
/-! PROOF. What the runs of the commands share, their loops over the grid and their completion, and CLEAR run to
completion (10_state.md R27; 41_grid_diffusion.md R110; 44_control_and_access.md R140, R141). -/

namespace Sys2Proof.Machine

open Sys2Proof.Claims

/-! ## Loops and rules along a run -/

/-- States each of which steps to the next are a run. -/
theorem runsTo_loop {f : Nat → State} {n : Nat} (h : ∀ i, i < n → step (f i) = .next (f (i + 1))) :
    runsTo n (f 0) (f n) := by
  induction n with
  | zero => exact runsTo_zero _
  | succ n ih => exact runsTo_add (ih fun i hi => h i (by omega)) (runsTo_succ (h n (by omega)) (runsTo_zero _))

theorem run_keeps {M : Host.Core} {P : M.State → Prop} (hP : ∀ s t, P s → M.step s = .next t → P t) {n : Nat}
    {s u : M.State} (h : M.run n s = .next u) (hs : P s) : P u := by
  induction n generalizing s with
  | zero =>
    cases h
    exact hs
  | succ n ih =>
    rw [Host.Core.run] at h
    split at h
    · next t ht => exact ih h (hP s t hs ht)
    · cases h
    · cases h

/-- What every step keeps holds at the end of a run. -/
theorem runsTo_keeps {P : State → Prop} (hP : ∀ s t, P s → step s = .next t → P t) {n : Nat} {s u : State}
    (h : runsTo n s u) (hs : P s) : P u := run_keeps (M := Sys2Proof.core) hP h hs

theorem index_lt_cells {s : State} {y x : Nat} (hy : y < s.params.gridH) (hx : x < s.params.gridW) :
    y * s.params.gridW + x < s.cells := by
  have hrow : (y + 1) * s.params.gridW ≤ s.params.gridH * s.params.gridW := Nat.mul_le_mul_right _ hy
  rw [Nat.add_mul, Nat.one_mul] at hrow
  rw [State.cells, Nat.mul_comm s.params.gridW]
  omega

/-- The cells `m` with the value of `f` in each of the first `n`, written in row-major order. -/
def writeCells (f : Nat → Byte) (m : List Host.Cell) : Nat → List Host.Cell
  | 0 => m
  | n + 1 => Memory.write (writeCells f m n) n (f n)

theorem read_writeCells (f : Nat → Byte) (m : List Host.Cell) (n k : Nat) :
    Memory.read (writeCells f m n) k = if k < n then some (f k) else Memory.read m k := by
  induction n with
  | zero => rfl
  | succ n ih =>
    rw [writeCells, read_write, ih]
    by_cases hk : k = n
    · subst hk
      rw [if_pos rfl, if_pos (by omega)]
    · rw [if_neg hk]
      exact if_congr (by omega) rfl rfl

theorem read_writeCells_of_lt (f : Nat → Byte) (m : List Host.Cell) {n k : Nat} (h : k < n) :
    Memory.read (writeCells f m n) k = some (f k) := by rw [read_writeCells, if_pos h]

theorem read_writeCells_of_ge (f : Nat → Byte) (m : List Host.Cell) {n k : Nat} (h : n ≤ k) :
    Memory.read (writeCells f m n) k = Memory.read m k := by rw [read_writeCells, if_neg (by omega)]

/-! ## STATUS from acceptance to completion -/

/-- The STATUS bits the completion of a command sets: DONE and the validity bits (R27, R141). -/
def completionBits : Command → Word
  | .init => 0x00000106
  | .clear => 0x00000102
  | .buildPal => 0x00000104
  | .nop | .step | .render | .effect => 0x00000100

theorem completionBits_bit (c : Command) {b : Nat} (hb : b < 32) :
    (completionBits c).getLsbD b =
      (decide (b = 1) && (decide (c = .init) || decide (c = .clear)) ||
        decide (b = 2) && (decide (c = .init) || decide (c = .buildPal)) || decide (b = 8)) := by
  cases c <;> interval_cases b <;> rfl

/-- Acceptance on an idle block and completion cancel in BUSY: what stays is what the command raised (`e`) and what
its completion sets. -/
theorem complete_status_of_accepted {s u : State} {e : Word} (hs : s.busy = false) (he : e.getLsbD 0 = false)
    (hu : u.status = s.status ||| BitVec.twoPow 32 bitBusy ||| e) :
    (complete u).status = s.status ||| e ||| completionBits u.lat.op := by
  refine BitVec.eq_of_getLsbD_eq fun b hb => (flag_complete u b hb).trans ?_
  have hbusy : s.status.getLsbD 0 = false := hs
  simp only [State.flag, hu, BitVec.getLsbD_or, BitVec.getLsbD_twoPow, completionBits_bit _ hb]
  by_cases hz : b = 0
  · subst hz
    rw [hbusy, he]
    simp
  · simp [hz, bitBusy, Ne.symm hz, Bool.or_assoc]

theorem flag_of_status_or {s u : State} {e : Word} (h : u.status = s.status ||| e) (b : Nat) :
    u.flag b = (s.flag b || e.getLsbD b) := by
  rw [State.flag, h, BitVec.getLsbD_or]
  rfl

theorem busy_of_status_or {s u : State} {e : Word} (hb : s.busy = false) (h : u.status = s.status ||| e)
    (he : e.getLsbD 0 = false) : u.busy = false :=
  (flag_of_status_or h 0).trans (by rw [he, Bool.or_false]; exact hb)

/-! ## CLEAR -/

/-- CLEAR has no check of its own (R140). -/
theorem acceptable_clear (s : State) : acceptable .clear s := by
  simp [acceptable, missesArray, wrongDepth, oddDestination, zeroDivider]

theorem step_clear {s : State} {i : Nat} (ht : s.turns = []) (hp : s.pos = .clear i) :
    step s = .next (clearTurn i s) := by
  rw [step_nil ht]
  simp only [autonomousTurn, hp, engineTurn]

/-- `s` in the clearing loop, the cells below `n` zeroed. -/
def clearLoop (s : State) (n : Nat) : State := { s with grid := writeCells (fun _ => 0) s.grid n, pos := .clear n }

/-- The whole loop, and the turn that leaves it (R110). -/
theorem runsTo_cleared {s : State} (ht : s.turns = []) (hp : s.pos = .clear 0) :
    runsTo (s.cells + 1) s { s with grid := writeCells (fun _ => 0) s.grid s.cells, pos := .finish } := by
  have hstart : s = clearLoop s 0 := by rw [clearLoop, writeCells, ← hp]
  have hturn (i : Nat) (hi : i < s.cells) : step (clearLoop s i) = .next (clearLoop s (i + 1)) :=
    (step_clear (s := clearLoop s i) ht rfl).trans (congrArg _ (if_pos hi))
  have hend : step (clearLoop s s.cells) = .next { clearLoop s s.cells with pos := .finish } :=
    (step_clear (s := clearLoop s s.cells) ht rfl).trans (congrArg _ (if_neg (lt_irrefl _)))
  have hloop := runsTo_loop hturn
  rw [← hstart] at hloop
  exact runsTo_add hloop (runsTo_succ hend (runsTo_zero _))

/-- A CLEAR just accepted, with nothing left to come from outside. -/
def clearAccepted (s : State) : State := { accept .clear (alone s) with reply := .done }

/-- That CLEAR with every cell zeroed. -/
def cellsCleared (s : State) : State :=
  { clearAccepted s with grid := writeCells (fun _ => 0) s.grid s.cells, pos := .finish }

theorem exec_clear {s : State} (hb : s.busy = false) : exec .clear (alone s) = .next (clearAccepted s) :=
  answerCommand_of_acceptable (s := alone s) hb (acceptable_clear _)

theorem runsTo_cellsCleared (s : State) :
    runsTo (s.cells + 2) (clearAccepted s) (complete (cellsCleared s)) := by
  have hloop : runsTo (s.cells + 1) (clearAccepted s) (cellsCleared s) :=
    runsTo_cleared (s := clearAccepted s) rfl rfl
  exact runsTo_add (n := 1) hloop (runsTo_complete rfl rfl)

theorem complete_cellsCleared_eq {s : State} (hb : s.busy = false) :
    complete (cellsCleared s) =
      { alone s with grid := writeCells (fun _ => 0) s.grid s.cells, status := s.status ||| 0x00000102,
                     lat := latched .clear s, pos := .idle, reply := .done } := by
  have hstatus : (complete (cellsCleared s)).status = s.status ||| 0#32 ||| completionBits .clear :=
    complete_status_of_accepted hb rfl BitVec.or_zero.symm
  rw [BitVec.or_zero] at hstatus
  rw [complete_frame, hstatus, ← latchOperands_eq_latched]
  rfl

/-- Settles O18: one turn a cell zeroes the grid, one leaves the loop and one completes. -/
theorem clearZeroesEveryCell : Obligations.ClearZeroesEveryCell := by
  refine ⟨encodedAndRefusedWhileBusy_opcode .clear, fun s hb =>
    ⟨s.cells + 2, clearAccepted s, complete (cellsCleared s), exec_clear hb, accept_busy _ _, runsTo_cellsCleared s,
      ?frame, ?zeroed, ?beyond⟩⟩
  all_goals rw [complete_cellsCleared_eq hb]
  case zeroed => exact fun k hk => read_writeCells_of_lt _ _ hk
  case beyond => exact fun k hk => read_writeCells_of_ge _ _ hk

end Sys2Proof.Machine
end

section
/-! PROOF. The diffusion step: what the next value of a cell depends on, its bound, STEP run to completion, and when it
overflows (41_grid_diffusion.md R111 to R117; 60_exceptions.md R163, R168). -/

namespace Sys2Proof.Machine

open Sys2Proof.Claims

/-! ## The samples -/

/-- Snapshots that agree on a cell give the same sample there. -/
theorem snapAt_congr {s : State} {m : List Host.Cell} {y x : Nat}
    (h : Memory.read m (y * s.params.gridW + x) = Memory.read s.snap (y * s.params.gridW + x)) :
    ({ s with snap := m } : State).snapAt y x = s.snapAt y x := by
  simp only [State.snapAt, State.snapCell, h]

theorem snapAt_of_known {s : State} {y x : Nat} {b : Byte}
    (h : Memory.read s.snap (y * s.params.gridW + x) = some b) : s.snapAt y x = b := by
  simp only [State.snapAt, State.snapCell, h, Option.getD_some]

/-- Settles O43: in a row above the last, row y + 1 does not wrap, and the four samples are the cells named. -/
theorem stepReadsOnlyItsFourSamples : Obligations.StepReadsOnlyItsFourSamples := by
  intro s m y x hy hbelow htwo
  have hrow : (y + 1) % s.params.gridH = y + 1 := Nat.mod_eq_of_lt hy
  have hsample (c : Nat) (hc : c = (x + s.params.gridW - 1) % s.params.gridW ∨ c = x ∨
      c = (x + 1) % s.params.gridW) : ({ s with snap := m } : State).snapAt (y + 1) c = s.snapAt (y + 1) c :=
    snapAt_congr (hbelow c hc)
  have hlower : ({ s with snap := m } : State).snapAt ((y + 2) % s.params.gridH) x =
      s.snapAt ((y + 2) % s.params.gridH) x := snapAt_congr htwo
  simp only [stepValue, stepSum, hrow, hlower, hsample _ (.inl rfl), hsample _ (.inr (.inl rfl)),
    hsample _ (.inr (.inr rfl))]

/-- The largest sum is four samples of 255 (R114). -/
theorem stepSum_le (s : State) (y x : Nat) : stepSum s y x ≤ 1020 := by
  have hsample (r c : Nat) : (s.snapAt r c).toNat ≤ 255 := Nat.le_of_lt_succ (s.snapAt r c).isLt
  have hleft := hsample ((y + 1) % s.params.gridH) ((x + s.params.gridW - 1) % s.params.gridW)
  have hmid := hsample ((y + 1) % s.params.gridH) x
  have hright := hsample ((y + 1) % s.params.gridH) ((x + 1) % s.params.gridW)
  have hlower := hsample ((y + 2) % s.params.gridH) x
  simp only [stepSum]
  omega

theorem stepValue_le (s : State) (y x : Nat) :
    stepValue s y x ≤ 1020 * s.lat.mult.toNat / s.lat.div.toNat :=
  Nat.div_le_div_right (Nat.mul_le_mul_right _ (stepSum_le s y x))

/-- Over a snapshot of one value everywhere, the sum is four times that value. -/
theorem stepSum_of_uniform {s : State} {v : Byte} (h : ∀ k, k < s.cells → Memory.read s.snap k = some v)
    (hh : 0 < s.params.gridH) {x : Nat} (hx : x < s.params.gridW) (y : Nat) : stepSum s y x = 4 * v.toNat := by
  have hsample (r : Nat) {c : Nat} (hc : c < s.params.gridW) : s.snapAt (r % s.params.gridH) c = v :=
    snapAt_of_known (h _ (index_lt_cells (Nat.mod_lt r hh) hc))
  have hw : 0 < s.params.gridW := Nat.zero_lt_of_lt hx
  simp only [stepSum, hsample _ hx, hsample _ (Nat.mod_lt _ hw)]
  omega

/-! ## The loop -/

/-- The byte a turn writes into the cell with linear index `k` (R111). -/
def nextCell (s : State) (k : Nat) : Byte :=
  BitVec.ofNat 8 (stepValue s (k / s.params.gridW) (k % s.params.gridW))

/-- Some cell below `n` has a quotient above 255 (R111). -/
def overflowBelow (s : State) (n : Nat) : Bool :=
  (List.range n).any fun k => decide (255 < stepValue s (k / s.params.gridW) (k % s.params.gridW))

theorem overflowBelow_succ (s : State) (n : Nat) :
    overflowBelow s (n + 1) =
      (overflowBelow s n || decide (255 < stepValue s (n / s.params.gridW) (n % s.params.gridW))) := by
  simp [overflowBelow, List.range_succ]

/-- `s` in the diffusion loop, the cells below `n` computed. -/
def stepLoop (s : State) (n : Nat) : State :=
  { s with grid := writeCells (nextCell s) s.grid n, pos := .step n, ovfSeen := s.ovfSeen || overflowBelow s n }

theorem stepLoop_zero {s : State} (hp : s.pos = .step 0) : stepLoop s 0 = s := by
  have ho : (s.ovfSeen || overflowBelow s 0) = s.ovfSeen := Bool.or_false _
  rw [stepLoop, writeCells, ho, ← hp]

/-- A turn reads the snapshot, which the loop leaves alone (R112). -/
theorem stepTurn_stepLoop {s : State} {n : Nat} (hn : n < s.upperCells) :
    stepTurn n (stepLoop s n) = stepLoop s (n + 1) := by
  have hturn : stepTurn n (stepLoop s n) =
      { s with grid := writeCells (nextCell s) s.grid (n + 1), pos := .step (n + 1),
               ovfSeen := s.ovfSeen || overflowBelow s n ||
                 decide (255 < stepValue s (n / s.params.gridW) (n % s.params.gridW)) } := if_pos hn
  rw [hturn, stepLoop, overflowBelow_succ, Bool.or_assoc]

theorem step_step {s : State} {i : Nat} (ht : s.turns = []) (hp : s.pos = .step i) :
    step s = .next (stepTurn i s) := by
  rw [step_nil ht]
  simp only [autonomousTurn, hp, engineTurn]

/-- The whole loop, and the turn that leaves it (R111, R168). -/
theorem runsTo_stepped {s : State} (ht : s.turns = []) (hp : s.pos = .step 0) :
    runsTo (s.upperCells + 1) s (stepTurn s.upperCells (stepLoop s s.upperCells)) := by
  have hturn (i : Nat) (hi : i < s.upperCells) : step (stepLoop s i) = .next (stepLoop s (i + 1)) :=
    (step_step (s := stepLoop s i) ht rfl).trans (congrArg _ (stepTurn_stepLoop hi))
  have hloop := runsTo_loop hturn
  rw [stepLoop_zero hp] at hloop
  exact runsTo_add hloop (runsTo_succ (step_step ht rfl) (runsTo_zero _))

/-! ## STEP -/

/-- A STEP just accepted, with nothing left to come from outside. -/
def stepAccepted (s : State) : State := { accept .step (alone s) with reply := .done }

/-- That STEP with every upper cell computed and the overflow, if any, recorded. -/
def cellsStepped (s : State) : State :=
  stepTurn s.upperCells (stepLoop (stepAccepted s) s.upperCells)

theorem exec_step {s : State} (hb : s.busy = false) (ha : acceptable .step s) :
    exec .step (alone s) = .next (stepAccepted s) :=
  answerCommand_of_acceptable (s := alone s) hb ha

theorem cellsStepped_eq (s : State) :
    cellsStepped s =
      { (if overflowBelow (stepAccepted s) s.upperCells then
          raise .ovf Command.step.opcode (stepLoop (stepAccepted s) s.upperCells)
        else stepLoop (stepAccepted s) s.upperCells) with pos := .finish } :=
  if_neg (lt_irrefl _)

theorem runsTo_cellsStepped (s : State) :
    runsTo (s.upperCells + 2) (stepAccepted s) (complete (cellsStepped s)) := by
  have hloop : runsTo (s.upperCells + 1) (stepAccepted s) (cellsStepped s) :=
    runsTo_stepped (s := stepAccepted s) rfl rfl
  have hturns : (cellsStepped s).turns = [] := by
    rw [cellsStepped_eq]
    split <;> rfl
  have hpos : (cellsStepped s).pos = .finish := by rw [cellsStepped_eq]
  exact runsTo_add (n := 1) hloop (runsTo_complete hturns hpos)

/-- The block after a STEP without an overflow. -/
theorem complete_cellsStepped_of_no_overflow {s : State} (hb : s.busy = false)
    (ho : overflowBelow (stepAccepted s) s.upperCells = false) :
    complete (cellsStepped s) =
      { alone s with grid := writeCells (nextCell (stepAccepted s)) s.grid s.upperCells,
                     status := s.status ||| 0x00000100, lat := latched .step s, snap := s.grid,
                     ovfSeen := false, pos := .idle, reply := .done } := by
  have heq : cellsStepped s = { stepLoop (stepAccepted s) s.upperCells with ovfSeen := false, pos := .finish } := by
    rw [cellsStepped_eq, ho, stepLoop, ho]
    rfl
  have hstatus : (complete (cellsStepped s)).status = s.status ||| 0#32 ||| completionBits .step := by
    rw [heq]
    exact complete_status_of_accepted hb rfl BitVec.or_zero.symm
  rw [BitVec.or_zero] at hstatus
  rw [complete_frame, hstatus, heq, ← latchOperands_eq_latched]
  rfl

/-- The block after a STEP with an overflow: OVF and LAST_ERR record it (R163, R168). -/
theorem complete_cellsStepped_of_overflow {s : State} (hb : s.busy = false)
    (ho : overflowBelow (stepAccepted s) s.upperCells = true) :
    complete (cellsStepped s) =
      { alone s with grid := writeCells (nextCell (stepAccepted s)) s.grid s.upperCells,
                     status := s.status ||| 0x00800100, lat := latched .step s, snap := s.grid,
                     ovfSeen := true, pos := .idle, lastErrOp := 0x4, lastErrCause := 9, reply := .done } := by
  have heq : cellsStepped s =
      { raise .ovf Command.step.opcode (stepLoop (stepAccepted s) s.upperCells) with
        ovfSeen := true, pos := .finish } := by
    rw [cellsStepped_eq, if_pos ho, stepLoop, ho]
    rfl
  have hstatus : (complete (cellsStepped s)).status = s.status ||| 0x00800000#32 ||| completionBits .step := by
    rw [heq]
    exact complete_status_of_accepted hb rfl rfl
  rw [BitVec.or_assoc] at hstatus
  rw [complete_frame, hstatus, heq, ← latchOperands_eq_latched]
  rfl

/-! ### The values of the next generation -/

/-- PARAM.MULT as a number. -/
theorem mult_toNat (s : State) : s.mult.toNat = s.param.toNat % 0x10000 := by simp [State.mult]

theorem stepAccepted_params (s : State) : (stepAccepted s).params = s.params := accept_params .step (alone s)

theorem stepAccepted_mult_toNat (s : State) : (stepAccepted s).lat.mult.toNat = s.param.toNat % 0x10000 :=
  mult_toNat s

theorem stepAccepted_div_toNat (s : State) : (stepAccepted s).lat.div.toNat = s.param.toNat / 0x10000 :=
  div_toNat s

theorem snapAt_stepAccepted {s : State} (hk : CellsKnown s.cells s.grid) {y x : Nat} (hy : y < s.params.gridH)
    (hx : x < s.params.gridW) : ((stepAccepted s).snapAt y x).toNat = heat s y x := by
  obtain ⟨b, hb⟩ := Option.isSome_iff_exists.1 (hk _ (index_lt_cells hy hx))
  have hsnap : (stepAccepted s).snapAt y x = b := snapAt_of_known (s := stepAccepted s) hb
  simp only [hsnap, heat, hb]

/-- Over a known grid the turns compute the next generation of the grid as it stood at acceptance (R112, R113). -/
theorem stepValue_stepAccepted {s : State} (hk : CellsKnown s.cells s.grid) {y x : Nat}
    (hy : y + 1 < s.params.gridH) (hx : x < s.params.gridW) : stepValue (stepAccepted s) y x = nextValue s y x := by
  have hw : 0 < s.params.gridW := Nat.zero_lt_of_lt hx
  have hrow : (y + 1) % s.params.gridH = y + 1 := Nat.mod_eq_of_lt hy
  simp only [stepValue, stepSum, nextValue, stepAccepted_params, stepAccepted_mult_toNat, stepAccepted_div_toNat, hrow,
    snapAt_stepAccepted hk hy hx, snapAt_stepAccepted hk hy (Nat.mod_lt _ hw),
    snapAt_stepAccepted hk (Nat.mod_lt _ (Nat.zero_lt_of_lt hy)) hx]

theorem nextCell_stepAccepted {s : State} (hk : CellsKnown s.cells s.grid) {y x : Nat}
    (hy : y + 1 < s.params.gridH) (hx : x < s.params.gridW) :
    nextCell (stepAccepted s) (y * s.params.gridW + x) = BitVec.ofNat 8 (nextValue s y x) := by
  obtain ⟨hrow, hcolumn⟩ := index_div_mod (y := y) hx
  rw [nextCell, stepAccepted_params, hrow, hcolumn, stepValue_stepAccepted hk hy hx]

/-- The loop sees an overflow exactly where the next generation has one. -/
theorem overflowBelow_stepAccepted {s : State} (hk : CellsKnown s.cells s.grid) :
    overflowBelow (stepAccepted s) s.upperCells = true ↔ overflows s := by
  simp only [overflowBelow, List.any_eq_true, List.mem_range, decide_eq_true_eq, stepAccepted_params]
  constructor
  · rintro ⟨k, hlt, ho⟩
    obtain ⟨hy, hx⟩ := bounds_of_lt_upperCells hlt
    rw [stepValue_stepAccepted hk hy hx] at ho
    exact ⟨_, _, hy, hx, ho⟩
  · rintro ⟨y, x, hy, hx, ho⟩
    obtain ⟨hrow, hcolumn⟩ := index_div_mod (y := y) hx
    refine ⟨_, index_lt_upperCells hy hx, ?_⟩
    rwa [hrow, hcolumn, stepValue_stepAccepted hk hy hx]

/-- Settles O21: one turn an upper cell computes its next value, one leaves the loop and one completes. -/
theorem stepAdvancesOneGeneration : Obligations.StepAdvancesOneGeneration := by
  intro s _ hb hk ha
  have hgrid : (complete (cellsStepped s)).grid = writeCells (nextCell (stepAccepted s)) s.grid s.upperCells := by
    cases ho : overflowBelow (stepAccepted s) s.upperCells with
    | false => rw [complete_cellsStepped_of_no_overflow hb ho]
    | true => rw [complete_cellsStepped_of_overflow hb ho]
  refine ⟨s.upperCells + 2, stepAccepted s, complete (cellsStepped s), exec_step hb ha, accept_busy _ _,
    runsTo_cellsStepped s, fun y x hy hx => ?upper, fun k hk => ?bed, fun ho => ?calm, fun ho => ?overflow⟩
  case upper => rw [hgrid, read_writeCells_of_lt _ _ (index_lt_upperCells hy hx), nextCell_stepAccepted hk hy hx]
  case bed => rw [hgrid, read_writeCells_of_ge _ _ hk]
  case calm =>
    rw [← overflowBelow_stepAccepted hk, Bool.not_eq_true] at ho
    rw [hgrid, complete_cellsStepped_of_no_overflow hb ho]
  case overflow =>
    rw [← overflowBelow_stepAccepted hk] at ho
    rw [hgrid, complete_cellsStepped_of_overflow hb ho]

/-! ## When a STEP overflows -/

/-- Over a grid of one value everywhere, every upper cell gets the same next value. -/
theorem nextValue_of_uniform {s : State} {v : Byte} (h : ∀ k, k < s.cells → Memory.read s.grid k = some v)
    {y x : Nat} (hy : y + 1 < s.params.gridH) (hx : x < s.params.gridW) :
    nextValue s y x = 4 * v.toNat * (s.param.toNat % 0x10000) / (s.param.toNat / 0x10000) := by
  have hk : CellsKnown s.cells s.grid := fun k hlt => by rw [h k hlt, Option.isSome_some]
  have hsum : stepSum (stepAccepted s) y x = 4 * v.toNat :=
    stepSum_of_uniform (s := stepAccepted s) h (Nat.zero_lt_of_lt hy) hx y
  rw [← stepValue_stepAccepted hk hy hx, stepValue, hsum,
    stepAccepted_mult_toNat, stepAccepted_div_toNat]

/-- Settles O22: the next value of every upper cell is 0, so STEP writes 0 there and overflows nowhere. -/
theorem zeroGridIsAFixedPointOfStep : Obligations.ZeroGridIsAFixedPointOfStep := by
  intro s hv hb ha hzero
  have hk : CellsKnown s.cells s.grid := fun k hlt => by rw [hzero k hlt, Option.isSome_some]
  have hnext (y x : Nat) (hy : y + 1 < s.params.gridH) (hx : x < s.params.gridW) : nextValue s y x = 0 := by
    simp [nextValue_of_uniform hzero hy hx]
  have hcalm : ¬ overflows s := by
    rintro ⟨y, x, hy, hx, ho⟩
    rw [hnext y x hy hx] at ho
    omega
  obtain ⟨n, t, u, hexec, -, hrun, hupper, hbed, hu, -⟩ := stepAdvancesOneGeneration s hv hb hk ha
  have hstatus : u.status = s.status ||| 0x00000100 := by rw [hu hcalm]
  refine ⟨n, t, u, hexec, hrun, busy_of_status_or hb hstatus rfl, fun k hlt => ?_, hstatus⟩
  by_cases hi : k < s.upperCells
  · obtain ⟨hy, hx⟩ := bounds_of_lt_upperCells hi
    have hcell := hupper _ _ hy hx
    rwa [Nat.div_add_mod', hnext _ _ hy hx] at hcell
  · rw [hbed k (by omega), hzero k hlt]

/-- A STEP somewhere on its way, alone, whose operands keep every quotient below 256 and that recorded no overflow:
what every step keeps below the bound of R115. -/
structure NoOverflow (s : State) : Prop where
  noTurns : s.turns = []
  calm : s.flag 23 = false
  unseen : s.ovfSeen = false
  op : s.lat.op = .step
  bound : 1020 * s.lat.mult.toNat / s.lat.div.toNat ≤ 255
  phase : (∃ i, s.pos = .step i) ∨ s.pos = .finish ∨ s.pos = .idle

theorem noOverflow_stepTurn {s : State} (h : NoOverflow s) (i : Nat) : NoOverflow (stepTurn i s) := by
  have hvalue := (stepValue_le s (i / s.params.gridW) (i % s.params.gridW)).trans h.bound
  by_cases hi : i < s.upperCells
  · have hturn : stepTurn i s = { s.setCell i (nextCell s i) with
        pos := .step (i + 1),
        ovfSeen := s.ovfSeen || decide (255 < stepValue s (i / s.params.gridW) (i % s.params.gridW)) } := if_pos hi
    rw [hturn]
    exact { noTurns := h.noTurns, calm := h.calm, unseen := by simp [h.unseen, hvalue], op := h.op, bound := h.bound,
            phase := .inl ⟨_, rfl⟩ }
  · have hturn : stepTurn i s = { s with pos := .finish } := by simp [stepTurn, hi, h.unseen, h.op]
    rw [hturn]
    exact { h with phase := .inr (.inl rfl) }

theorem noOverflow_complete {s : State} (h : NoOverflow s) : NoOverflow (complete s) := by
  have hcalm : (complete s).flag 23 = false := by simp [flag_complete, h.calm]
  rw [complete_frame] at hcalm ⊢
  exact { h with calm := hcalm, phase := .inr (.inr rfl) }

/-- Every step of such a STEP is one more. -/
theorem noOverflow_step (s t : State) (h : NoOverflow s) (hs : step s = .next t) : NoOverflow t := by
  rw [step_nil h.noTurns] at hs
  cases hs
  obtain ⟨i, hp⟩ | hp | hp := h.phase <;> simp only [autonomousTurn, hp, engineTurn]
  · exact noOverflow_stepTurn h i
  · exact noOverflow_complete h
  · exact h

theorem noOverflow_stepAccepted {s : State} (hcalm : s.flag 23 = false)
    (hbound : 1020 * (s.param.toNat % 0x10000) / (s.param.toNat / 0x10000) ≤ 255) : NoOverflow (stepAccepted s) where
  noTurns := rfl
  calm := (flag_accept .step (alone s) 23 (by decide)).trans ((Bool.or_false _).trans hcalm)
  unseen := rfl
  op := rfl
  bound := by rwa [stepAccepted_mult_toNat, stepAccepted_div_toNat]
  phase := .inl ⟨0, rfl⟩

/-- A grid of `n` cells, each 255. -/
def fullHeat (n : Nat) : List Host.Cell := writeCells (fun _ => 255) [] n

theorem read_fullHeat {n k : Nat} (h : k < n) : Memory.read (fullHeat n) k = some 255 := read_writeCells_of_lt _ _ h

theorem cellsKnown_fullHeat (n : Nat) : CellsKnown n (fullHeat n) := fun k hk => by
  rw [read_fullHeat hk, Option.isSome_some]

/-- The OVF bit after a STEP on a block whose OVF was clear: set exactly on an overflow (R115, R168). -/
theorem step_ovf_iff {s : State} (hv : s.params.Valid) (hb : s.busy = false) (hk : CellsKnown s.cells s.grid)
    (ha : acceptable .step s) (hcalm : s.status.getLsbD 23 = false) :
    ∃ n t u, exec .step (alone s) = .next t ∧ runsTo n t u ∧ u.busy = false ∧
      (u.status.getLsbD 23 = true ↔ overflows s) := by
  obtain ⟨n, t, u, hexec, -, hrun, -, -, hno, hyes⟩ := stepAdvancesOneGeneration s hv hb hk ha
  refine ⟨n, t, u, hexec, hrun, ?_⟩
  by_cases ho : overflows s
  · have hstatus : u.status = s.status ||| 0x00800100 := by rw [hyes ho]
    have hset : u.flag 23 = true := (flag_of_status_or hstatus 23).trans (Bool.or_true _)
    exact ⟨busy_of_status_or hb hstatus rfl, iff_of_true hset ho⟩
  · have hstatus : u.status = s.status ||| 0x00000100 := by rw [hno ho]
    have hclear : u.flag 23 = false := (flag_of_status_or hstatus 23).trans ((Bool.or_false _).trans hcalm)
    exact ⟨busy_of_status_or hb hstatus rfl, iff_of_false (Bool.eq_false_iff.1 hclear) ho⟩

/-- Over every grid content, a STEP can set OVF exactly at the bound (R115). -/
theorem step_can_overflow_iff {s : State} (hv : s.params.Valid) (hh : 2 ≤ s.params.gridH) (hb : s.busy = false)
    (ha : acceptable .step s) (hcalm : s.status.getLsbD 23 = false) :
    (∃ m, CellsKnown s.cells m ∧ ∃ n t u, exec .step (alone { s with grid := m }) = .next t ∧
        runsTo n t u ∧ u.busy = false ∧ u.status.getLsbD 23 = true) ↔
      255 < 1020 * (s.param.toNat % 0x10000) / (s.param.toNat / 0x10000) := by
  constructor
  · rintro ⟨m, -, n, t, u, hexec, hrun, -, hovf⟩
    by_contra hbound
    rw [exec_step (s := { s with grid := m }) hb ha] at hexec
    cases hexec
    have hu := runsTo_keeps noOverflow_step hrun
      (noOverflow_stepAccepted (s := { s with grid := m }) hcalm (Nat.le_of_not_lt hbound))
    exact absurd (hovf.symm.trans hu.calm) (by decide)
  · intro hbound
    have ⟨hw, _⟩ := hv
    have ho : overflows { s with grid := fullHeat s.cells } := by
      refine ⟨0, 0, hh, hw, ?_⟩
      rw [nextValue_of_uniform (s := { s with grid := fullHeat s.cells }) (fun _ => read_fullHeat) hh hw]
      exact hbound
    obtain ⟨n, t, u, hexec, hrun, hbusy, hovf⟩ :=
      step_ovf_iff (s := { s with grid := fullHeat s.cells }) hv hb (cellsKnown_fullHeat _) ha hcalm
    exact ⟨_, cellsKnown_fullHeat _, n, t, u, hexec, hrun, hbusy, hovf.2 ho⟩

/-- The quotient of a processed cell can exceed 255 exactly at the bound (R115). -/
theorem stepValue_can_overflow_iff {s : State} (hv : s.params.Valid) (hh : 2 ≤ s.params.gridH) :
    (∃ (m : List Host.Cell) (y x : Nat), y + 1 < s.params.gridH ∧ x < s.params.gridW ∧
        255 < stepValue { s with snap := m } y x) ↔
      255 < 1020 * s.lat.mult.toNat / s.lat.div.toNat := by
  obtain ⟨hw, -⟩ := hv
  constructor
  · rintro ⟨m, y, x, -, -, ho⟩
    exact ho.trans_le (stepValue_le { s with snap := m } y x)
  · intro hbound
    have hsum : stepSum { s with snap := fullHeat s.cells } 0 0 = 1020 :=
      stepSum_of_uniform (s := { s with snap := fullHeat s.cells }) (fun _ => read_fullHeat)
        (Nat.zero_lt_of_lt hh) hw 0
    exact ⟨fullHeat s.cells, 0, 0, hh, hw, by rwa [stepValue, hsum]⟩

/-- Settles O23: 1020 is the largest sum, and a grid of 255 everywhere reaches it. -/
theorem overflowExactlyAtTheBound : Obligations.OverflowExactlyAtTheBound := by
  refine ⟨fun s hv hh hb ha hcalm => ⟨step_can_overflow_iff hv hh hb ha hcalm, ?quotient⟩,
    fun s hv hh _ => stepValue_can_overflow_iff hv hh, fun s hv hb hk ha hcalm => step_ovf_iff hv hb hk ha hcalm,
    fun s y x hmult hdiv => ?thirty⟩
  case quotient =>
    obtain ⟨-, -, -, hdiv⟩ := ha
    exact Nat.le_div_iff_mul_le (Nat.pos_of_ne_zero fun h => hdiv ⟨.inl rfl, h⟩)
  case thirty =>
    have hm : s.lat.mult.toNat = 30 := by rw [hmult]; rfl
    have hd : s.lat.div.toNat = 32 := by rw [hdiv]; rfl
    rw [stepValue, hm, hd]
    omega

end Sys2Proof.Machine
end

section
/-! PROOF. The host procedures: feed and put_char as runs of grid window writes on an idle block
(42_host_injection.md R121 to R123; 44_control_and_access.md R146; log 20). -/

namespace Sys2Proof.Machine

open Sys2Proof.Claims

/-! ## A grid window write as the next turn -/

/-- The window offset of a grid byte, in bits. -/
theorem gridOffset_toNat {i : Nat} (hi : i < 0x10000) : (BitVec.ofNat 17 (0x10000 + i)).toNat = 0x10000 + i := by
  rw [BitVec.toNat_ofNat]
  omega

/-- The key of a write to a grid byte is the encoder's (R74). -/
theorem writeKey_gridOffset {i : Nat} (hi : i < 0x10000) :
    writeKey (BitVec.ofNat 17 (0x10000 + i)) = 0b11#2 ++ BitVec.ofNat 16 i := by
  apply BitVec.eq_of_toNat_eq
  rw [writeKey, BitVec.toNat_append, BitVec.toNat_append, gridOffset_toNat hi, BitVec.toNat_ofNat,
    ← Nat.shiftLeft_add_eq_or_of_lt (by omega), ← Nat.shiftLeft_add_eq_or_of_lt (by omega)]
  simp only [BitVec.toNat_ofNat, Nat.shiftLeft_eq]
  omega

theorem wellFormed_of_legalSized {i : Nat} {w : Width} (h : legalSized i w = true) : w.wellFormed = true := by
  cases w with
  | w8 | w16 | w32 => rfl
  | other n => cases h

theorem widthBytes_of_legalSized {i : Nat} {w : Width} (h : legalSized i w = true) :
    0 < widthBytes w ∧ widthBytes w ≤ 4 := by
  cases w with
  | w8 | w16 | w32 => decide
  | other n => cases h

/-- The grid window starts at an aligned offset, so a grid byte and its offset are aligned alike. -/
theorem legalSized_gridOffset (i : Nat) (w : Width) : legalSized (0x10000 + i) w = legalSized i w := by
  cases w with
  | w8 | other n => rfl
  | w16 | w32 =>
    simp only [legalSized, decide_eq_decide]
    omega

/-- What comes next from outside does not reach the cells. -/
theorem storeCells_grid_turns (n k i : Nat) (d : Word) (s : State) (ts : List Turn) :
    (storeCells n k i d { s with turns := ts }).grid = (storeCells n k i d s).grid := by
  induction n generalizing k i s with
  | zero => rfl
  | succ n ih =>
    by_cases hi : i < s.cells
    · rw [storeCells, storeCells, if_pos hi, if_pos (show i < State.cells { s with turns := ts } from hi)]
      exact ih (k + 1) (i + 1) (s.setCell i (dataByte d k))
    · rw [storeCells, storeCells, if_neg hi, if_neg (show ¬ i < State.cells { s with turns := ts } from hi)]
      exact ih (k + 1) (i + 1) s

/-- The block after a `w`-wide write of `d` at grid byte `i` is stored and answered (R146). -/
def gridStored (w : Width) (i : Nat) (d : Word) (s : State) : State :=
  { s with grid := (storeCells (widthBytes w) 0 i d s).grid, reply := .done }

theorem gridStored_cells (w : Width) (i : Nat) (d : Word) (s : State) : (gridStored w i d s).cells = s.cells := rfl

theorem gridStored_upperCells (w : Width) (i : Nat) (d : Word) (s : State) :
    (gridStored w i d s).upperCells = s.upperCells := rfl

theorem read_gridStored (w : Width) (i : Nat) (d : Word) (s : State) (k : Nat) :
    Memory.read (gridStored w i d s).grid k =
      if i ≤ k ∧ k < i + widthBytes w ∧ k < s.cells then some (dataByte d (k - i))
      else Memory.read s.grid k := by
  refine (read_storeCells (widthBytes w) 0 i d s k).trans ?_
  rw [Nat.zero_add]

/-- A legal grid window write on an idle block is stored and answered OK (R55, R146). -/
theorem exec_wrGrid_of_idle {s : State} {w : Width} {i : Nat} (d : Word) (hb : s.busy = false)
    (hi : i < 0x10000) (hl : legalSized i w = true) :
    exec (.wrGrid (BitVec.ofNat 16 i) w d) s = .next (gridStored w i d s) := by
  have hoff : (BitVec.ofNat 16 i).toNat = i := by rw [BitVec.toNat_ofNat, Nat.mod_eq_of_lt hi]
  rw [exec, execWrGrid, answerWrite, hoff, if_pos hl, gridWrite, hb, if_neg Bool.false_ne_true, storeCells_frame]
  rfl

/-- `s` with the lines of a host program to come, and nothing else. -/
def presented (ls : List HostLine) (s : State) : State := { s with turns := ls.map HostLine.turn }

/-- The first line of a program, a legal grid window write, on an idle block: it is decoded and stored. -/
theorem step_presented_wr {s : State} {w : Width} {i : Nat} (d : Word) (ls : List HostLine)
    (hb : s.busy = false) (hi : i < 0x10000) (hl : legalSized i w = true) :
    step (presented (.wr w (BitVec.ofNat 17 (0x10000 + i)) d :: ls) s) =
      .next (presented ls (gridStored w i d s)) := by
  have hdecode : decode (HostLine.wr w (BitVec.ofNat 17 (0x10000 + i)) d).txn =
      .ok (.wrGrid (BitVec.ofNat 16 i) w d) := by
    rw [HostLine.txn, writeKey_gridOffset hi]
    exact decodeOfEncodeIsTheInstruction (.wrGrid (BitVec.ofNat 16 i) w d) (wellFormed_of_legalSized hl)
  have hexec := exec_wrGrid_of_idle (s := presented ls s) d hb hi hl
  have hgrid : gridStored w i d (presented ls s) = presented ls (gridStored w i d s) := by
    rw [gridStored, presented, storeCells_grid_turns]
    rfl
  exact (step_host rfl).trans ((hostTurn_of_decode hdecode _).trans (hgrid ▸ hexec))

/-! ## Cells and their offsets -/

theorem cellOffset_eq (p : Params) (x y : Nat) :
    cellOffset p x y = BitVec.ofNat 17 (0x10000 + (y * p.gridW + x)) := by rw [cellOffset, Nat.add_assoc]

theorem index_lt_window {s : State} (hv : s.params.Valid) {y x : Nat} (hy : y < s.params.gridH)
    (hx : x < s.params.gridW) : y * s.params.gridW + x < 0x10000 := by
  obtain ⟨-, -, -, -, hcells, -⟩ := hv
  exact (index_lt_cells hy hx).trans_le hcells

theorem cells_eq_upperCells_add {s : State} (hv : s.params.Valid) :
    s.cells = s.upperCells + s.params.gridW := by
  obtain ⟨-, -, hh, -⟩ := hv
  rw [State.cells, State.upperCells, ← Nat.succ_mul, Nat.succ_eq_add_one, Nat.sub_add_cancel hh, Nat.mul_comm]

/-! ## feed -/

theorem dataByte_feedData (draw : Nat → Byte) {w : Width} (hw : widthBytes w ≤ 4) (x : Nat) {k : Nat}
    (hk : k < widthBytes w) : dataByte (feedData draw w x) k = draw (x + k) := by
  rw [feedData, dataByte_assemble _ _ (hk.trans_le hw), if_pos hk]

/-- A mix ends at the end of the row, so it starts in the row or there. -/
theorem le_gridW_of_legalMix {p : Params} {mix : List Width} {x : Nat} (h : legalMix p mix x = true) :
    x ≤ p.gridW := by
  induction mix generalizing x with
  | nil => exact (beq_iff_eq.1 h).le
  | cons w rest ih =>
    obtain ⟨-, hrest⟩ := Bool.and_eq_true_iff.1 h
    exact (Nat.le_add_right _ _).trans (ih hrest)

/-- A legal mix that starts with `w` at column `x`: the write is legal at its grid byte, which lies in the window, and
the rest is a legal mix. -/
theorem legalMix_cons {s : State} (hv : s.params.Valid) {w : Width} {rest : List Width} {x : Nat}
    (h : legalMix s.params (w :: rest) x = true) :
    s.upperCells + x < 0x10000 ∧ legalSized (s.upperCells + x) w = true ∧
      legalMix s.params rest (x + widthBytes w) = true := by
  have ⟨_, _, hh, _⟩ := hv
  obtain ⟨hl, hrest⟩ := Bool.and_eq_true_iff.1 h
  obtain ⟨hpos, -⟩ := widthBytes_of_legalSized hl
  have hx : x + widthBytes w ≤ s.params.gridW := le_gridW_of_legalMix hrest
  have hi : s.upperCells + x < 0x10000 := index_lt_window hv (by omega) (by omega)
  refine ⟨hi, ?_, hrest⟩
  rw [cellOffset_eq] at hl
  rwa [← legalSized_gridOffset, ← gridOffset_toNat hi]

/-- The writes of feed from column `x` on store the draws in the columns from `x` on. -/
theorem runsTo_feedFrom (draw : Nat → Byte) {mix : List Width} {x : Nat} {s : State} (hv : s.params.Valid)
    (hb : s.busy = false) (hm : legalMix s.params mix x = true) :
    ∃ u, runsTo mix.length (presented (feedFrom s.params draw mix x) s) u ∧
      u = { s with turns := [], grid := u.grid, reply := if mix = [] then s.reply else .done } ∧
      ∀ k, Memory.read u.grid k =
        if s.upperCells + x ≤ k ∧ k < s.cells then some (draw (k - s.upperCells)) else Memory.read s.grid k := by
  have hcells := cells_eq_upperCells_add hv
  induction mix generalizing x s with
  | nil =>
    have hx : x = s.params.gridW := beq_iff_eq.1 hm
    exact ⟨presented [] s, runsTo_zero _, rfl, fun k => by rw [if_neg (by omega)]; rfl⟩
  | cons w rest ih =>
    obtain ⟨hi, hl, hrest⟩ := legalMix_cons hv hm
    obtain ⟨-, hw⟩ := widthBytes_of_legalSized hl
    have hend := le_gridW_of_legalMix hrest
    obtain ⟨u, hrun, hu, hread⟩ :=
      ih (s := gridStored w (s.upperCells + x) (feedData draw w x) s) hv hb hrest hcells
    refine ⟨u, ?run, ?frame, fun k => ?cell⟩
    case run =>
      rw [feedFrom, cellOffset_eq]
      exact runsTo_succ (step_presented_wr _ _ hb hi hl) hrun
    case frame =>
      rw [hu]
      simp [gridStored]
    case cell =>
      rw [hread, read_gridStored, gridStored_cells, gridStored_upperCells]
      by_cases hk : s.upperCells + x ≤ k ∧ k < s.upperCells + x + widthBytes w
      · rw [if_neg (by omega), if_pos (by omega), if_pos (by omega),
          dataByte_feedData draw hw x (by omega), ← Nat.sub_sub, Nat.add_sub_cancel' (by omega)]
      · have hout : ¬ (s.upperCells + x ≤ k ∧ k < s.upperCells + x + widthBytes w ∧ k < s.cells) := by omega
        rw [if_neg hout]
        exact if_congr (by omega) rfl rfl

/-- 8-bit writes are legal at every offset. -/
theorem legalMix_bytes (p : Params) {n x : Nat} (h : x + n = p.gridW) :
    legalMix p (List.replicate n .w8) x = true := by
  induction n generalizing x with
  | zero => exact beq_iff_eq.2 h
  | succ n ih => exact ih (by simp only [widthBytes]; omega)

/-- Settles O58: each write of the mix stores its draws in its own columns, and together they are the row. -/
theorem feedRefillsTheFlameBed : Obligations.FeedRefillsTheFlameBed := by
  refine ⟨fun s mix draw hv hb hm => ?mix, fun p _ => legalMix_bytes p (Nat.zero_add _),
    fun draw h0 h1 h2 h3 => ⟨by decide, ?sample⟩⟩
  case mix =>
    have ⟨hw, _⟩ := hv
    have hne : mix ≠ [] := by
      rintro rfl
      exact absurd (beq_iff_eq.1 hm) (by omega)
    have hcells := cells_eq_upperCells_add hv
    obtain ⟨u, hrun, hu, hread⟩ := runsTo_feedFrom draw hv hb hm
    rw [if_neg hne] at hu
    refine ⟨u, hrun, hu, fun x hx => ?_, fun k hk => ?_⟩
    · rw [hread, if_pos (by omega), Nat.add_sub_cancel_left]
    · rw [hread, if_neg (by omega)]
  case sample =>
    have hdata : feedData draw .w32 0 = 0xFFC88040 := by
      simp only [feedData, widthBytes, assemble, h0, h1, h2, h3, Nat.zero_add]
      decide
    rw [feedLines, feedFrom, hdata]
    rfl

/-! ## put_char -/

/-- An 8-bit write sets its cell and no other. -/
theorem read_gridStored_byte (v : Byte) {s : State} {i : Nat} (hi : i < s.cells) (k : Nat) :
    Memory.read (gridStored .w8 i (v.setWidth 32) s).grid k =
      if k = i then some v else Memory.read s.grid k := by
  have hdata : dataByte (v.setWidth 32) 0 = v := by
    apply BitVec.eq_of_toNat_eq
    rw [dataByte, BitVec.extractLsb'_toNat, BitVec.toNat_setWidth, Nat.mul_zero, Nat.shiftRight_zero]
    omega
  rw [read_gridStored]
  by_cases hk : k = i
  · subst hk
    rw [if_pos ⟨le_rfl, Nat.lt_succ_self k, hi⟩, if_pos rfl, Nat.sub_self, hdata]
  · rw [if_neg hk, if_neg]
    rintro ⟨hle, hlt, -⟩
    exact hk (Nat.le_antisymm (Nat.le_of_lt_succ hlt) hle)

/-- One cell at a time: a program of `setcell` lines sets the cells it names and no other (R79). -/
theorem runsTo_setCellLines (v : Byte) {cells : List (Nat × Nat)} {s : State} (hv : s.params.Valid)
    (hb : s.busy = false) (hin : ∀ c ∈ cells, c.1 < s.params.gridW ∧ c.2 < s.params.gridH) :
    ∃ u, runsTo cells.length (presented (cells.map fun c => setCellLine s.params c.1 c.2 v) s) u ∧
      u.turns = [] ∧
      (∀ c ∈ cells, Memory.read u.grid (c.2 * s.params.gridW + c.1) = some v) ∧
      ∀ k, (∀ c ∈ cells, k ≠ c.2 * s.params.gridW + c.1) → Memory.read u.grid k = Memory.read s.grid k := by
  induction cells generalizing s with
  | nil => exact ⟨presented [] s, runsTo_zero _, rfl, by simp, fun k _ => rfl⟩
  | cons c rest ih =>
    obtain ⟨⟨hx, hy⟩, hrest⟩ := List.forall_mem_cons.1 hin
    have hi := index_lt_window hv hy hx
    have hfirst := read_gridStored_byte v (index_lt_cells hy hx)
    obtain ⟨u, hrun, hu, hset, hkept⟩ :=
      ih (s := gridStored .w8 (c.2 * s.params.gridW + c.1) (v.setWidth 32) s) hv hb hrest
    refine ⟨u, ?run, hu, List.forall_mem_cons.2 ⟨?first, hset⟩, fun k hk => ?kept⟩
    case run =>
      rw [List.map_cons, setCellLine, cellOffset_eq]
      exact runsTo_succ (step_presented_wr _ _ hb hi rfl) hrun
    case first =>
      by_cases hagain : ∃ e ∈ rest, c.2 * s.params.gridW + c.1 = e.2 * s.params.gridW + e.1
      · obtain ⟨e, he, heq⟩ := hagain
        rw [heq]
        exact hset e he
      · rw [hkept _ fun e he heq => hagain ⟨e, he, heq⟩, hfirst, if_pos rfl]
    case kept =>
      obtain ⟨hk, hkrest⟩ := List.forall_mem_cons.1 hk
      rw [hkept k hkrest, hfirst, if_neg hk]

theorem glyphIndex_eq (glyph : Byte) : glyphIndex glyph = glyph.toNat % 128 + 1 := by
  rw [glyphIndex, BitVec.toNat_and]
  exact congrArg (· + 1) (Nat.and_two_pow_sub_one_eq_mod glyph.toNat 7)

theorem glyphDropped_iff (p : Params) (x0 y0 : Int) :
    glyphDropped p x0 y0 = true ↔
      x0 < 0 ∨ y0 < 0 ∨ (p.gridW : Int) - 8 < x0 ∨ (p.gridH : Int) - 8 < y0 := by
  simp only [glyphDropped, Bool.or_eq_true, decide_eq_true_eq, or_assoc]

/-- The cells (x, y) of the "on" bits of a glyph with these columns, placed at (x0, y0) (R122, R123). -/
def onCells (order : FontBitOrder) (column : Nat → Byte) (x0 y0 : Nat) : List (Nat × Nat) :=
  (List.range 8).flatMap fun c =>
    ((List.range 8).filter fun r => fontBit order (column c) r).map fun r => (x0 + c, y0 + r)

theorem mem_onCells {order : FontBitOrder} {column : Nat → Byte} {x0 y0 : Nat} {e : Nat × Nat} :
    e ∈ onCells order column x0 y0 ↔
      ∃ c r, c < 8 ∧ r < 8 ∧ fontBit order (column c) r = true ∧ e = (x0 + c, y0 + r) := by
  simp only [onCells, List.mem_flatMap, List.mem_map, List.mem_filter, List.mem_range]
  constructor
  · rintro ⟨c, hc, r, ⟨hr, hon⟩, rfl⟩
    exact ⟨c, r, hc, hr, hon, rfl⟩
  · rintro ⟨c, r, hc, hr, hon, rfl⟩
    exact ⟨c, hc, r, ⟨hr, hon⟩, rfl⟩

section PutChar

variable (p : Params) (order : FontBitOrder) (font : Nat → Nat → Byte) (glyph : Byte) {x0 y0 : Int}
  (v : GlyphIntensity)

theorem putCharLines_dropped (h : x0 < 0 ∨ y0 < 0 ∨ (p.gridW : Int) - 8 < x0 ∨ (p.gridH : Int) - 8 < y0) :
    putCharLines p order font glyph x0 y0 v = [] := by
  rw [putCharLines, if_pos ((glyphDropped_iff p x0 y0).2 h)]

/-- A glyph inside the grid is one `setcell` line for each of its "on" bits. -/
theorem putCharLines_placed (h : ¬ (x0 < 0 ∨ y0 < 0 ∨ (p.gridW : Int) - 8 < x0 ∨ (p.gridH : Int) - 8 < y0)) :
    putCharLines p order font glyph x0 y0 v =
      (onCells order (font (glyph.toNat % 128 + 1)) x0.toNat y0.toNat).map
        fun c => setCellLine p c.1 c.2 v.val := by
  rw [putCharLines, if_neg (mt (glyphDropped_iff p x0 y0).1 h), onCells, List.map_flatMap, glyphIndex_eq]
  simp only [List.map_map, Function.comp_def]

end PutChar

/-- Settles O59: a glyph is dropped before its first access, or it is a program of `setcell` lines for its "on"
cells, all of them in the grid. -/
theorem putCharSetsTheOnBitsOrNothing : Obligations.PutCharSetsTheOnBitsOrNothing := by
  refine ⟨fun column r _ => ⟨rfl, rfl⟩, fun p order font glyph x0 y0 v =>
    ⟨putCharLines_dropped p order font glyph v, ?placed⟩⟩
  rintro s rfl hv hb hx0 hy0 hx1 hy1
  have hin : ∀ e ∈ onCells order (font (glyph.toNat % 128 + 1)) x0.toNat y0.toNat,
      e.1 < s.params.gridW ∧ e.2 < s.params.gridH := by
    intro e he
    obtain ⟨c, r, hc, hr, -, rfl⟩ := mem_onCells.1 he
    constructor <;> dsimp only <;> omega
  obtain ⟨u, hrun, hu, hset, hkept⟩ := runsTo_setCellLines v.val hv hb hin
  rw [← putCharLines_placed s.params order font glyph v (by omega)] at hrun
  refine ⟨_, u, hrun, hu, fun c r hc hr hon => ⟨?on, v.property⟩, fun k hk => hkept k fun e he => ?off⟩
  case on => exact hset _ (mem_onCells.2 ⟨c, r, hc, hr, hon, rfl⟩)
  case off =>
    obtain ⟨c, r, hc, hr, hon, rfl⟩ := mem_onCells.1 he
    exact hk c r hc hr hon

end Sys2Proof.Machine
end

section
/-! PROOF. The blitter: the abort at a bus error, RENDER run to completion with its memory frame, and the black image
of a zero grid (43_blitter.md R130 to R137; 20_memory.md R64; 60_exceptions.md R163; logs 12, 28). -/

namespace Sys2Proof.Machine

open Sys2Proof.Claims

/-! ## A bus error -/

theorem memWrite_error_outside {s : State} {a : Word} (v : Half) (h : s.inWindow a = false) :
    memWrite a v .error s = ({ s with mem := forgetPixel s.mem a, stale := markPixel s.stale a }, false) := by
  simp [memWrite, h]

/-- A turn of the drawing loop with an ERROR answer, outside the block's own window (R135). -/
theorem blitTurn_error_outside {s : State} {i : Nat} (hi : i < s.upperCells)
    (hw : s.inWindow (s.pixelAddr i) = false) :
    blitTurn .error i s =
      { s with mem := forgetPixel s.mem (s.pixelAddr i), stale := markPixel s.stale (s.pixelAddr i),
               status := (s.status ||| 0x00200000) &&& 0xFFFFFFFE, lastErrOp := s.lat.op.opcode,
               lastErrCause := 7, faultAddr := s.pixelAddr i, pos := .idle } := by
  rw [blitTurn_of_error hi (memWrite_error_outside _ hw), abort_raiseBus_eq]

theorem read_forgetPixel_low (mem : List Host.Cell) (a : Word) :
    Memory.read (forgetPixel mem a) a.toNat = none := by
  rw [read_forgetPixel, if_neg (toNat_ne_succ a), if_pos rfl]

theorem read_forgetPixel_high (mem : List Host.Cell) (a : Word) :
    Memory.read (forgetPixel mem a) (a + 1).toNat = none := by
  rw [read_forgetPixel, if_pos rfl]

theorem read_forgetPixel_other (mem : List Host.Cell) {a : Word} {b : Nat} (hl : b ≠ a.toNat)
    (hh : b ≠ (a + 1).toNat) : Memory.read (forgetPixel mem a) b = Memory.read mem b := by
  rw [read_forgetPixel, if_neg hh, if_neg hl]

/-- An idle engine does nothing, so it issues no write (R47). -/
theorem engineTurn_idle {s : State} (r : PortResponse) (h : s.pos = .idle) : engineTurn r s = s := by
  simp only [engineTurn, h]

/-- Settles O28: the failed write forgets and marks its pixel, and the abort leaves the engine idle. -/
theorem busErrorAbortsTheCommand : Obligations.BusErrorAbortsTheCommand := by
  intro s rest i ht hp hi hw
  have hturn := blitTurn_error_outside (s := { s with turns := rest }) hi hw
  refine ⟨_, (step_blit ht hp).trans (congrArg _ hturn), rfl, read_forgetPixel_low _ _, read_forgetPixel_high _ _,
    fun b hl hh => read_forgetPixel_other _ hl hh, fun b => ?stale, fun r => engineTurn_idle r rfl⟩
  case stale =>
    refine (mem_markPixel _ _ _).trans ?_
    tauto

/-! ## The bytes of the image -/

/-- Drawing marks the bytes of the pixels drawn and no other (R64). -/
theorem mem_stale_drawPixels {n i : Nat} {s : State} {b : Nat} :
    b ∈ (drawPixels n i s).stale ↔ b ∈ s.stale ∨
      ∃ j, i ≤ j ∧ j < i + n ∧ (b = (s.pixelAddr j).toNat ∨ b = (s.pixelAddr j + 1).toNat) := by
  induction n generalizing i s with
  | zero =>
    have hnone (j : Nat) : ¬ (i ≤ j ∧ j < i + 0) := by omega
    simp only [drawPixels, ← and_assoc, hnone, false_and, exists_false, or_false]
  | succ n ih =>
    have hrest := ih (i := i + 1) (s := drawPixel i s)
    have hmark : b ∈ (drawPixel i s).stale ↔
        b = (s.pixelAddr i + 1).toNat ∨ b = (s.pixelAddr i).toNat ∨ b ∈ s.stale := mem_markPixel _ _ _
    rw [drawPixels, hrest, hmark]
    constructor
    · rintro ((hhigh | hlow | hold) | ⟨j, hj, hjn, hb⟩)
      · exact .inr ⟨i, le_rfl, by omega, .inr hhigh⟩
      · exact .inr ⟨i, le_rfl, by omega, .inl hlow⟩
      · exact .inl hold
      · exact .inr ⟨j, by omega, by omega, hb⟩
    · rintro (hold | ⟨j, hj, hjn, hb⟩)
      · exact .inl (.inr (.inr hold))
      · obtain rfl | hlt := Nat.eq_or_lt_of_le hj
        · exact .inl (by tauto)
        · exact .inr ⟨j, hlt, by omega, hb⟩

/-- The linear indices of the upper rows are their cells by row and column (R132). -/
theorem exists_upper_index_iff {s : State} {P : Nat → Nat → Prop} :
    (∃ i, i < s.upperCells ∧ P (i / s.params.gridW) (i % s.params.gridW)) ↔
      ∃ y x, y + 1 < s.params.gridH ∧ x < s.params.gridW ∧ P y x := by
  constructor
  · rintro ⟨i, hi, h⟩
    obtain ⟨hy, hx⟩ := bounds_of_lt_upperCells hi
    exact ⟨_, _, hy, hx, h⟩
  · rintro ⟨y, x, hy, hx, h⟩
    obtain ⟨hrow, hcolumn⟩ := index_div_mod (y := y) hx
    exact ⟨y * s.params.gridW + x, index_lt_upperCells hy hx, by rwa [hrow, hcolumn]⟩

/-- The second byte of a pixel at an even address is the next one, without a wrap (R57). -/
theorem pixelAt_succ {s : State} (hr : readyFor .render s) {y x : Nat} (hx : x < s.params.gridW) :
    (pixelAt s y x + 1).toNat = (pixelAt s y x).toNat + 1 := by
  have heven := pixelAt_even hr (y := y) hx
  bv_omega

/-- A RENDER leaves every byte of no pixel as it was (R134). -/
theorem read_rendered_other {s : State} (hr : readyFor .render s) {b : Nat}
    (hb : ∀ y x, y + 1 < s.params.gridH → x < s.params.gridW →
      b ≠ (pixelAt s y x).toNat ∧ b ≠ (pixelAt s y x).toNat + 1) :
    Memory.read (rendered s).mem b = Memory.read s.mem b := by
  rw [rendered, (sameMemory_complete _).mem]
  refine read_drawPixels_other (s := renderAccepted 0 s) fun j _ hj => ?_
  obtain ⟨hy, hx⟩ := bounds_of_lt_upperCells (s := s) (i := j) (by omega)
  rw [renderAccepted_pixelAddr, pixelAt_succ hr hx]
  exact hb _ _ hy hx

/-- A RENDER marks the bytes of its pixels and no other (R64). -/
theorem mem_stale_rendered {s : State} (hr : readyFor .render s) {b : Nat} :
    b ∈ (rendered s).stale ↔ b ∈ s.stale ∨ ∃ y x, y + 1 < s.params.gridH ∧ x < s.params.gridW ∧
      (b = (pixelAt s y x).toNat ∨ b = (pixelAt s y x).toNat + 1) := by
  rw [rendered, (sameMemory_complete _).stale]
  refine mem_stale_drawPixels.trans (or_congr Iff.rfl ?_)
  rw [← exists_upper_index_iff (P := fun y x => b = (pixelAt s y x).toNat ∨ b = (pixelAt s y x).toNat + 1)]
  refine exists_congr fun j => ?_
  simp only [Nat.zero_le, true_and, Nat.zero_add]
  refine and_congr_right fun hj => ?_
  obtain ⟨-, hx⟩ := bounds_of_lt_upperCells hj
  rw [renderAccepted_pixelAddr, pixelAt_succ hr hx]

/-! ## RENDER -/

/-- Drawing ends with the operands, the registers and the arrays of acceptance (R136). -/
theorem imageDrawn_frame (s : State) :
    imageDrawn s [] = { accept .render (alone s) with mem := (imageDrawn s []).mem, stale := (imageDrawn s []).stale,
                                                      pos := (imageDrawn s []).pos, reply := .done } := by
  rw [imageDrawn, drawPixels_frame]
  rfl

/-- A RENDER touches memory and the stale bytes, and of the registers STATUS, the latched operands and the answer on
the bus (R136, R141). -/
theorem rendered_eq {s : State} (hb : s.busy = false) :
    rendered s =
      { alone s with mem := (rendered s).mem, stale := (rendered s).stale, status := s.status ||| 0x00000100,
                     lat := latched .render s, pos := .idle, reply := .done } := by
  have hstatus : (rendered s).status = s.status ||| 0#32 ||| completionBits .render := by
    rw [rendered, imageDrawn_frame]
    exact complete_status_of_accepted hb rfl BitVec.or_zero.symm
  have hmem : (rendered s).mem = (imageDrawn s []).mem := (sameMemory_complete _).mem
  have hstale : (rendered s).stale = (imageDrawn s []).stale := (sameMemory_complete _).stale
  rw [BitVec.or_zero] at hstatus
  have hframe : rendered s = { imageDrawn s [] with status := (rendered s).status, pos := .idle } := complete_frame _
  rw [hmem, hstale, hframe, hstatus, imageDrawn_frame, ← latchOperands_eq_latched]
  rfl

/-- Settles O24: the loop draws every pixel, and each clause is one of the facts about `rendered`. -/
theorem renderWritesTheImage : Obligations.RenderWritesTheImage := by
  intro s hr ho
  have ⟨_, hb, _⟩ := hr
  refine ⟨_, _, rendered s, exec_render hr _, accept_busy _ _, runsTo_rendered ho, rendered_eq hb,
    fun y x hy hx hl => ?image, fun b => read_rendered_other hr, fun b => mem_stale_rendered hr⟩
  case image =>
    rw [← pixelAt_succ hr hx]
    exact read_rendered hr hy hx hl

/-! ## The black image -/

/-- A later row, or a later column of the same row, has the larger index (R132). -/
theorem index_lt_of_later {w y x y' x' : Nat} (hx : x < w) (h : y < y' ∨ (y = y' ∧ x < x')) :
    y * w + x < y' * w + x' := by
  obtain hlt | ⟨rfl, hlt⟩ := h
  · have hrow : (y + 1) * w ≤ y' * w := Nat.mul_le_mul_right w hlt
    rw [Nat.add_mul, Nat.one_mul] at hrow
    omega
  · omega

/-- Some pixel at the address of (x, y) is the last one there: the one of the largest index. -/
theorem exists_lastAtItsAddress {s : State} {y x : Nat} (hy : y + 1 < s.params.gridH) (hx : x < s.params.gridW) :
    ∃ y' x', y' + 1 < s.params.gridH ∧ x' < s.params.gridW ∧ pixelAt s y' x' = pixelAt s y x ∧
      lastAtItsAddress s y' x' := by
  by_cases hl : lastAtItsAddress s y x
  · exact ⟨y, x, hy, hx, rfl, hl⟩
  · simp only [lastAtItsAddress, not_forall, not_not] at hl
    obtain ⟨y₁, x₁, hlater, hy₁, hx₁, ha⟩ := hl
    have hless := index_lt_of_later hx hlater
    have hbound := index_lt_upperCells hy₁ hx₁
    obtain ⟨y', x', hy', hx', ha', hl'⟩ := exists_lastAtItsAddress hy₁ hx₁
    exact ⟨y', x', hy', hx', ha'.trans ha, hl'⟩
termination_by s.upperCells - (y * s.params.gridW + x)

theorem heat_of_zero {s : State} (hz : ∀ k, k < s.cells → Memory.read s.grid k = some 0) {y x : Nat}
    (hy : y < s.params.gridH) (hx : x < s.params.gridW) : heat s y x = 0 := by
  simp only [heat, hz _ (index_lt_cells hy hx)]
  rfl

/-- Heat 0 is black under the reference converter: `pal[0] = 0x0000` (R104, R137). -/
theorem packedColor_zero {p : Params} (h : p.converter = .reference) : packedColor p 0 = 0 := by
  rw [packedColor, h]
  decide

/-- Settles O25: whichever pixel is the last at an address, its colour is black. -/
theorem zeroGridRendersBlack : Obligations.ZeroGridRendersBlack := by
  intro s hr ho hc hz
  refine ⟨_, _, rendered s, exec_render hr _, runsTo_rendered ho, complete_busy _, fun y x hy hx => ?_⟩
  obtain ⟨y', x', hy', hx', ha, hl⟩ := exists_lastAtItsAddress hy hx
  have hbytes := read_rendered hr hy' hx' hl
  rw [heat_of_zero hz (by omega) hx', packedColor_zero hc, ha, pixelAt_succ hr hx] at hbytes
  exact hbytes

end Sys2Proof.Machine
end

section
/-! PROOF. The commands composed of others, run to completion: NOP, which is acceptance and completion alone, INIT and
EFFECT (44_control_and_access.md R140 to R144). -/

namespace Sys2Proof.Machine

open Sys2Proof.Claims

/-! ## A command just accepted -/

/-- `c` just accepted on `s`, with the turns `ts` to come. -/
def accepted (c : Command) (ts : List Turn) (s : State) : State :=
  { accept c { s with turns := ts } with reply := .done }

theorem exec_of_acceptable {c : Command} {s : State} (hb : s.busy = false) (ha : acceptable c s) (ts : List Turn) :
    exec c.instr { s with turns := ts } = .next (accepted c ts s) :=
  (exec_instr c _).trans (answerCommand_of_acceptable (s := { s with turns := ts }) hb ha)

/-- NOP and INIT have no check of their own (R140). -/
theorem acceptable_of_unchecked {c : Command} (hc : c = .nop ∨ c = .init) (s : State) : acceptable c s := by
  obtain rfl | rfl := hc <;> simp [acceptable, missesArray, wrongDepth, oddDestination, zeroDivider]

/-- A command that raised nothing leaves STATUS with the bits of its completion alone (R27, R141). -/
theorem complete_status_of_nothing_raised {s u : State} (hs : s.busy = false)
    (hu : u.status = s.status ||| BitVec.twoPow 32 bitBusy) :
    (complete u).status = s.status ||| completionBits u.lat.op := by
  rw [complete_status_of_accepted (e := 0#32) hs rfl (hu.trans BitVec.or_zero.symm), BitVec.or_zero]

theorem accepted_busy (c : Command) (ts : List Turn) (s : State) : (accepted c ts s).busy = true := accept_busy c _

/-! ## NOP -/

theorem complete_accepted_nop_eq {s : State} (hb : s.busy = false) :
    complete (accepted .nop [] s) =
      { alone s with status := s.status ||| 0x00000100, lat := latched .nop s, pos := .idle, reply := .done } := by
  rw [complete_frame, complete_status_of_nothing_raised hb rfl, ← latchOperands_eq_latched]
  rfl

theorem exec_nop {s : State} (hb : s.busy = false) : exec .nop (alone s) = .next (accepted .nop [] s) :=
  exec_of_acceptable hb (acceptable_of_unchecked (.inl rfl) s) []

/-- Settles O17: the one turn of an accepted NOP completes it. -/
theorem nopSetsDoneAndNothingElse : Obligations.NopSetsDoneAndNothingElse := by
  refine ⟨encodedAndRefusedWhileBusy_opcode .nop, fun s hb => ?idle, ?reset⟩
  case idle =>
    exact ⟨1, _, _, exec_nop hb, accepted_busy _ _ _, runsTo_complete rfl rfl, complete_accepted_nop_eq hb⟩
  case reset =>
    have hu := complete_accepted_nop_eq (s := State.reset) rfl
    exact ⟨1, _, _, exec_nop (s := State.reset) rfl, runsTo_complete rfl rfl, congrArg State.status hu,
      congrArg State.pos hu⟩

/-! ## INIT -/

/-- An accepted INIT with every palette entry built, about to clear the grid. -/
def initBuilt (s : State) : State :=
  { accepted .init [] s with pal := builtEntries s.params s.pal 256, pos := .clear 0 }

/-- That INIT with every cell zeroed too. -/
def initCleared (s : State) : State :=
  { initBuilt s with grid := writeCells (fun _ => 0) s.grid s.cells, pos := .finish }

theorem exec_init {s : State} (hb : s.busy = false) : exec .init (alone s) = .next (accepted .init [] s) :=
  exec_of_acceptable hb (acceptable_of_unchecked (.inr rfl) s) []

/-- The turns of an INIT: those of its palette, those of its cells and the completion (R143). -/
theorem runsTo_initCleared (s : State) :
    runsTo (257 + (s.cells + 2)) (accepted .init [] s) (complete (initCleared s)) := by
  have hpalette : runsTo 257 (accepted .init [] s) (initBuilt s) := runsTo_palette rfl rfl
  have hcells : runsTo (s.cells + 1) (initBuilt s) (initCleared s) := runsTo_cleared (s := initBuilt s) rfl rfl
  exact runsTo_add hpalette (runsTo_add (n := 1) hcells (runsTo_complete rfl rfl))

theorem complete_initCleared_eq {s : State} (hb : s.busy = false) :
    complete (initCleared s) =
      { alone s with pal := builtEntries s.params s.pal 256, grid := writeCells (fun _ => 0) s.grid s.cells,
                     status := s.status ||| 0x00000106, lat := latched .init s, pos := .idle, reply := .done } := by
  rw [complete_frame, complete_status_of_nothing_raised hb rfl, ← latchOperands_eq_latched]
  rfl

/-- Settles O20: the palette loop runs into the clearing loop, and the completion sets both validity bits. -/
theorem initBuildsThePaletteAndClearsTheGrid : Obligations.InitBuildsThePaletteAndClearsTheGrid := by
  refine ⟨encodedAndRefusedWhileBusy_opcode .init, fun s hb => ?idle, ?reset⟩
  case idle =>
    refine ⟨_, _, _, exec_init hb, accepted_busy _ _ _, runsTo_initCleared s, ?frame, ?entries, ?cells⟩
    all_goals rw [complete_initCleared_eq hb]
    case entries => exact fun x => read_builtEntries_of_lt s x.isLt
    case cells => exact fun k hk => read_writeCells_of_lt _ _ hk
  case reset =>
    exact ⟨_, _, _, exec_init (s := State.reset) rfl, runsTo_initCleared State.reset,
      congrArg State.status (complete_initCleared_eq rfl)⟩

/-! ## The diffusion loop at engine turns of the outside world -/

/-- The diffusion loop does not look at the turns to come. -/
theorem stepLoop_turns (s : State) (n : Nat) (ts : List Turn) :
    stepLoop { s with turns := ts } n = { stepLoop s n with turns := ts } := rfl

theorem stepTurn_turns (i : Nat) (s : State) (ts : List Turn) :
    stepTurn i { s with turns := ts } = { stepTurn i s with turns := ts } := by
  by_cases hi : i < s.upperCells
  · rw [stepTurn, stepTurn, if_pos hi]
    exact if_pos hi
  · rw [stepTurn, stepTurn, if_neg hi]
    refine (if_neg hi).trans ?_
    by_cases ho : s.ovfSeen
    · rw [if_pos ho, if_pos (show State.ovfSeen { s with turns := ts } = true from ho)]
      rfl
    · rw [if_neg ho, if_neg (show ¬ State.ovfSeen { s with turns := ts } = true from ho)]

/-- A turn of the diffusion loop at an engine turn of the outside world. -/
theorem step_step_ok {s : State} {i : Nat} {rest : List Turn} (ht : s.turns = .engine .ok :: rest)
    (hp : s.pos = .step i) : step s = .next { stepTurn i s with turns := rest } := by
  rw [step_engine ht, engineTurn_step (s := { s with turns := rest }) .ok hp, stepTurn_turns]

/-- The loop at engine turns of the outside world (R111). -/
theorem runsTo_stepLoop_ok {n : Nat} {s : State} (hp : s.pos = .step 0) (hn : n ≤ s.upperCells) (rest : List Turn) :
    runsTo n { s with turns := List.replicate n (.engine .ok) ++ rest } { stepLoop s n with turns := rest } := by
  induction n generalizing rest with
  | zero =>
    rw [stepLoop_zero hp]
    exact runsTo_zero _
  | succ n ih =>
    have hturn := step_step_ok (s := { stepLoop s n with turns := .engine .ok :: rest }) rfl rfl
    rw [stepTurn_turns, stepTurn_stepLoop hn] at hturn
    rw [List.replicate_succ', List.append_assoc]
    exact runsTo_add (ih (by omega) _) (runsTo_succ hturn (runsTo_zero _))

/-- The whole loop, and the turn that leaves it (R111, R168). -/
theorem runsTo_stepped_ok {s : State} (hp : s.pos = .step 0) (rest : List Turn) :
    runsTo (s.upperCells + 1) { s with turns := List.replicate (s.upperCells + 1) (.engine .ok) ++ rest }
      { stepTurn s.upperCells (stepLoop s s.upperCells) with turns := rest } := by
  have hend := step_step_ok (s := { stepLoop s s.upperCells with turns := .engine .ok :: rest }) rfl rfl
  rw [stepTurn_turns] at hend
  rw [List.replicate_succ', List.append_assoc]
  exact runsTo_add (runsTo_stepLoop_ok hp le_rfl _) (runsTo_succ hend (runsTo_zero _))

theorem accepted_turns (c : Command) (ts : List Turn) (s : State) :
    accepted c ts s = { accepted c [] s with turns := ts } := by
  rw [accepted, accepted, accept_eq, accept_eq]
  rfl

/-- The diffusion loop of a command just accepted (R111, R144). -/
theorem runsTo_accepted_stepped {c : Command} (hc : startPos c = .step 0) (s : State) (rest : List Turn) :
    runsTo (s.upperCells + 1) (accepted c (List.replicate (s.upperCells + 1) (.engine .ok) ++ rest) s)
      { stepTurn s.upperCells (stepLoop (accepted c [] s) s.upperCells) with turns := rest } := by
  have hupper : (accepted c [] s).upperCells = s.upperCells := by
    rw [State.upperCells, accepted, accept_eq]
    rfl
  have hpos : (accepted c [] s).pos = .step 0 := by
    rw [accepted, accept_eq]
    exact hc
  have hrun := runsTo_stepped_ok hpos rest
  rw [hupper] at hrun
  rwa [accepted_turns]

theorem runsTo_complete_ok {s : State} (ht : s.turns = [.engine .ok]) (hp : s.pos = .finish) :
    runsTo 1 s (complete { s with turns := [] }) := by
  have hstep := step_engine ht
  rw [engineTurn_finish (s := { s with turns := [] }) .ok hp] at hstep
  exact runsTo_succ hstep (runsTo_zero _)

/-! ## The STEP of an EFFECT -/

theorem cellsStepped_turns (s : State) : (cellsStepped s).turns = [] := by
  rw [cellsStepped_eq]
  split <;> rfl

/-- A STEP at engine turns of the outside world ends as one left alone. -/
theorem runsTo_cellsStepped_ok (s : State) :
    runsTo (s.upperCells + 2) (accepted .step (List.replicate (s.upperCells + 2) (.engine .ok)) s)
      (complete (cellsStepped s)) := by
  have hloop : runsTo (s.upperCells + 1) (accepted .step (List.replicate (s.upperCells + 2) (.engine .ok)) s)
      { cellsStepped s with turns := [.engine .ok] } := by
    rw [show List.replicate (s.upperCells + 2) (Turn.engine .ok) = _ from List.replicate_add (s.upperCells + 1) 1 _]
    exact runsTo_accepted_stepped rfl s [.engine .ok]
  have halone : { cellsStepped s with turns := [] } = cellsStepped s := by rw [← cellsStepped_turns s]
  have hcomplete := runsTo_complete_ok (s := { cellsStepped s with turns := [.engine .ok] }) rfl
    (by rw [cellsStepped_eq])
  exact (runsTo_add (n := 1) hloop hcomplete).trans (congrArg (fun u => Host.Outcome.next (complete u)) halone)

/-- STATUS.OVF where the generation computed from `s` overflows (R168). -/
def generationOvf (s : State) : Word := if overflowBelow (stepAccepted s) s.upperCells then 0x00800000 else 0#32

/-- The block after a STEP, with what an overflow changes left open. -/
theorem complete_cellsStepped_frame {s : State} (hb : s.busy = false) :
    complete (cellsStepped s) =
      { alone s with grid := writeCells (nextCell (stepAccepted s)) s.grid s.upperCells,
                     status := s.status ||| generationOvf s ||| 0x00000100, lat := latched .step s, snap := s.grid,
                     ovfSeen := (complete (cellsStepped s)).ovfSeen, pos := .idle,
                     lastErrOp := (complete (cellsStepped s)).lastErrOp,
                     lastErrCause := (complete (cellsStepped s)).lastErrCause, reply := .done } := by
  rw [generationOvf]
  cases ho : overflowBelow (stepAccepted s) s.upperCells with
  | false =>
    rw [complete_cellsStepped_of_no_overflow hb ho, if_neg Bool.false_ne_true, BitVec.or_assoc]
    rfl
  | true =>
    rw [complete_cellsStepped_of_overflow hb ho, if_pos rfl, BitVec.or_assoc]
    rfl

/-! ## The checks of an EFFECT -/

/-- EFFECT has the checks of STEP and those of RENDER (R140, R144). -/
theorem acceptable_effect_iff (s : State) :
    acceptable .effect s ↔ acceptable .step s ∧ acceptable .render s := by
  simp only [acceptable, missesArray, wrongDepth, oddDestination, zeroDivider, reduceCtorEq, or_false,
    or_true, true_and, false_and, not_false_eq_true]
  tauto

/-- RENDER's checks read the validity bits and the destination registers alone (R140). -/
theorem acceptable_render_congr {s u : State} (hgrid : u.flag 1 = s.flag 1) (hpal : u.flag 2 = s.flag 2)
    (hdepth : u.dstDepth = s.dstDepth) (hbase : u.dstBase = s.dstBase) (hpitch : u.dstPitch = s.dstPitch)
    (h : acceptable .render s) : acceptable .render u := by
  simp only [State.flag] at hgrid hpal
  obtain ⟨harray, hwrong, hodd, -⟩ := h
  refine ⟨?array, ?depth, ?odd, by simp [zeroDivider]⟩
  case array => simpa only [missesArray, hgrid, hpal] using harray
  case depth => simpa only [wrongDepth, hdepth] using hwrong
  case odd => simpa only [oddDestination, hbase, hpitch] using hodd

/-- The block a STEP leaves is ready for the RENDER of the same EFFECT (R144). -/
theorem readyFor_render_stepped {s : State} (hr : readyFor .effect s) :
    readyFor .render (complete (cellsStepped s)) := by
  obtain ⟨hv, hb, hk, hpal, ha⟩ := hr
  obtain ⟨-, hrender⟩ := (acceptable_effect_iff s).1 ha
  have hflag (b : Nat) (hlt : b = 1 ∨ b = 2) : (complete (cellsStepped s)).flag b = s.flag b := by
    have hstatus : (complete (cellsStepped s)).status = s.status ||| (generationOvf s ||| 0x00000100) := by
      rw [complete_cellsStepped_frame hb, ← BitVec.or_assoc]
    have hclear : (generationOvf s ||| 0x00000100).getLsbD b = false := by
      rw [generationOvf]
      obtain rfl | rfl := hlt <;> split <;> rfl
    rw [flag_of_status_or hstatus, hclear, Bool.or_false]
  have hbusy := complete_busy (cellsStepped s)
  rw [complete_cellsStepped_frame hb] at hflag hbusy ⊢
  refine ⟨hv, hbusy, fun k hlt => ?known, hpal,
    acceptable_render_congr (hflag 1 (.inl rfl)) (hflag 2 (.inr rfl)) rfl rfl rfl hrender⟩
  case known =>
    rw [read_writeCells]
    split
    · rfl
    · exact hk k hlt

/-! ## EFFECT -/

/-- An accepted EFFECT with its STEP done, about to draw. -/
def heatAdvanced (s : State) : State := stepTurn s.upperCells (stepLoop (accepted .effect [] s) s.upperCells)

theorem heatAdvanced_eq (s : State) :
    heatAdvanced s =
      { (if overflowBelow (stepAccepted s) s.upperCells then
          raise .ovf Command.effect.opcode (stepLoop (accepted .effect [] s) s.upperCells)
        else stepLoop (accepted .effect [] s) s.upperCells) with pos := .blit 0 } := if_neg (lt_irrefl _)

/-- Drawing starts over the new grid; an overflow is recorded under EFFECT's own opcode (R144, R163, R168). -/
theorem heatAdvanced_frame (s : State) :
    heatAdvanced s =
      { alone s with
        grid := writeCells (nextCell (stepAccepted s)) s.grid s.upperCells
        status := s.status ||| BitVec.twoPow 32 bitBusy ||| generationOvf s
        lat := latched .effect s
        snap := s.grid
        ovfSeen := overflowBelow (stepAccepted s) s.upperCells
        pos := .blit 0
        lastErrOp := if overflowBelow (stepAccepted s) s.upperCells then 0x6 else s.lastErrOp
        lastErrCause := if overflowBelow (stepAccepted s) s.upperCells then 9 else s.lastErrCause
        reply := .done } := by
  rw [heatAdvanced_eq, generationOvf, ← latchOperands_eq_latched]
  split
  · rfl
  · rw [BitVec.or_zero]
    rfl

/-- That EFFECT once every pixel is drawn, with the turns `ts` to come. -/
def effectDrawn (s : State) (ts : List Turn) : State :=
  { drawPixels s.upperCells 0 (heatAdvanced s) with turns := ts }

/-- The EFFECT completed. -/
def effected (s : State) : State := complete { effectDrawn s [] with pos := .finish }

theorem effectDrawn_frame (s : State) :
    effectDrawn s [] = { heatAdvanced s with mem := (effectDrawn s []).mem, stale := (effectDrawn s []).stale,
                                             pos := (effectDrawn s []).pos } := by
  rw [effectDrawn, drawPixels_frame, heatAdvanced_frame]
  rfl

theorem effected_memory (s : State) :
    (effected s).mem = (effectDrawn s []).mem ∧ (effected s).stale = (effectDrawn s []).stale :=
  ⟨(sameMemory_complete _).mem, (sameMemory_complete _).stale⟩

theorem effected_status {s : State} (hb : s.busy = false) :
    (effected s).status = s.status ||| generationOvf s ||| 0x00000100 := by
  have he : (generationOvf s).getLsbD 0 = false := by
    rw [generationOvf]
    split <;> rfl
  rw [effected, effectDrawn_frame, heatAdvanced_frame]
  exact complete_status_of_accepted hb he rfl

/-- An EFFECT touches the grid, memory and the stale bytes, and of the registers STATUS, LAST_ERR, the latched
operands with the snapshot and the answer on the bus (R136, R141, R144). -/
theorem effected_frame (s : State) :
    effected s = { heatAdvanced s with mem := (effected s).mem, stale := (effected s).stale,
                                       status := (effected s).status, pos := .idle } := by
  obtain ⟨hmem, hstale⟩ := effected_memory s
  have hframe : effected s = { effectDrawn s [] with status := (effected s).status, pos := .idle } := complete_frame _
  rw [hmem, hstale, hframe, effectDrawn_frame]

/-! ### The run -/

/-- The addresses drawn are those of R131 for the operands at acceptance. -/
theorem heatAdvanced_pixelAddr (s : State) (i : Nat) :
    (heatAdvanced s).pixelAddr i = pixelAt s (i / s.params.gridW) (i % s.params.gridW) := by
  rw [heatAdvanced_frame]
  rfl

theorem heatAdvanced_params (s : State) : (heatAdvanced s).params = s.params := by rw [heatAdvanced_frame]; rfl

theorem heatAdvanced_upperCells (s : State) : (heatAdvanced s).upperCells = s.upperCells := by
  simp only [State.upperCells, heatAdvanced_params]

theorem heatAdvanced_outside {s : State} (ho : outsideWindow s) {i : Nat} (hi : i < s.upperCells) :
    (heatAdvanced s).inWindow ((heatAdvanced s).pixelAddr i) = false := by
  obtain ⟨hy, hx⟩ := bounds_of_lt_upperCells hi
  rw [heatAdvanced_pixelAddr, State.inWindow, heatAdvanced_params]
  exact inWindow_pixelAt ho hy hx

theorem runsTo_effectDrawn {s : State} (ho : outsideWindow s) (rest : List Turn) :
    runsTo s.upperCells { heatAdvanced s with turns := List.replicate s.upperCells (.engine .ok) ++ rest }
      (effectDrawn s rest) := by
  have hpos : (heatAdvanced s).pos = .blit 0 := by rw [heatAdvanced_frame]
  rw [effectDrawn, ← drawPixels_turns]
  exact runsTo_drawPixels
    (s := { heatAdvanced s with turns := List.replicate s.upperCells (.engine .ok) ++ rest }) hpos
    ((Nat.zero_add _).trans (heatAdvanced_upperCells s).symm).le
    (fun j _ hj => heatAdvanced_outside ho (by omega)) rfl

/-- The turns of an EFFECT: those of its STEP, those of its RENDER and the completion (R144). -/
theorem runsTo_effected {s : State} (ho : outsideWindow s) :
    runsTo (s.upperCells + 1 + (s.upperCells + 2))
      (accepted .effect (List.replicate (s.upperCells + 1 + (s.upperCells + 2)) (.engine .ok)) s) (effected s) := by
  have hstep := runsTo_accepted_stepped (c := .effect) rfl s
    (List.replicate s.upperCells (.engine .ok) ++ [.engine .ok, .engine .ok])
  have hpos : (effectDrawn s [.engine .ok, .engine .ok]).pos = .blit (0 + s.upperCells) :=
    drawPixels_pos (by rw [heatAdvanced_frame])
  have hend : (effectDrawn s [.engine .ok, .engine .ok]).upperCells ≤ 0 + s.upperCells :=
    ((drawPixels_upperCells _ _ _).trans (heatAdvanced_upperCells s)).le.trans (Nat.zero_add _).ge
  rw [List.replicate_add (s.upperCells + 1), List.replicate_add s.upperCells 2]
  exact runsTo_add hstep (runsTo_add (runsTo_effectDrawn ho _) (runsTo_finish hpos hend rfl))

/-! ### The same image -/

/-- What the drawing loop reads and writes is the same in both states. -/
structure SameCanvas (s t : State) : Prop where
  params : s.params = t.params
  grid : s.grid = t.grid
  pal : s.pal = t.pal
  draws : s.draws = t.draws
  base : s.lat.base = t.lat.base
  pitch : s.lat.pitch = t.lat.pitch
  mem : s.mem = t.mem
  stale : s.stale = t.stale

theorem SameCanvas.pixelAddr {s t : State} (h : SameCanvas s t) (i : Nat) : s.pixelAddr i = t.pixelAddr i := by
  simp only [State.pixelAddr, pixelAddress, h.params, h.base, h.pitch]

theorem SameCanvas.pixelValue {s t : State} (h : SameCanvas s t) (i : Nat) : s.pixelValue i = t.pixelValue i := by
  simp only [State.pixelValue, State.palEntry, State.cell, h.grid, h.pal, h.draws]

theorem SameCanvas.drawPixel {s t : State} (h : SameCanvas s t) (i : Nat) :
    SameCanvas (drawPixel i s) (drawPixel i t) :=
  { h with
    mem := by simp only [Machine.drawPixel, h.mem, h.pixelAddr, h.pixelValue]
    stale := by simp only [Machine.drawPixel, h.stale, h.pixelAddr] }

theorem SameCanvas.drawPixels {s t : State} (h : SameCanvas s t) (n i : Nat) :
    SameCanvas (drawPixels n i s) (drawPixels n i t) := by
  induction n generalizing i s t with
  | zero => exact h
  | succ n ih => exact ih (h.drawPixel i) (i + 1)

/-- EFFECT draws over what its STEP has left, as a RENDER after that STEP does (R144). -/
theorem sameCanvas_heatAdvanced {s : State} (hb : s.busy = false) :
    SameCanvas (heatAdvanced s) (renderAccepted 0 (complete (cellsStepped s))) := by
  rw [heatAdvanced_frame, complete_cellsStepped_frame hb]
  exact ⟨rfl, rfl, rfl, rfl, rfl, rfl, rfl, rfl⟩

theorem complete_cellsStepped_upperCells {s : State} (hb : s.busy = false) :
    (complete (cellsStepped s)).upperCells = s.upperCells := by
  rw [complete_cellsStepped_frame hb]
  rfl

theorem effected_sameMemory {s : State} (hb : s.busy = false) :
    (effected s).mem = (rendered (complete (cellsStepped s))).mem ∧
      (effected s).stale = (rendered (complete (cellsStepped s))).stale := by
  have hsame := (sameCanvas_heatAdvanced hb).drawPixels s.upperCells 0
  rw [rendered, (sameMemory_complete _).mem, (sameMemory_complete _).stale, effected, (sameMemory_complete _).mem,
    (sameMemory_complete _).stale]
  simp only [imageDrawn, effectDrawn, complete_cellsStepped_upperCells hb]
  exact ⟨hsame.mem, hsame.stale⟩

/-- Settles O26: a STEP and a RENDER draw on the canvas that EFFECT draws on, and raise the same STATUS bits. -/
theorem effectIsStepThenRender : Obligations.EffectIsStepThenRender := by
  intro s hr ho
  have ⟨_, hb, hk, _, ha⟩ := hr
  obtain ⟨hstep, -⟩ := (acceptable_effect_iff s).1 ha
  have hrender := readyFor_render_stepped hr
  have hframe := complete_cellsStepped_frame hb
  have houtside : outsideWindow (complete (cellsStepped s)) := by
    rw [hframe]
    exact ho
  have hrun := runsTo_rendered houtside
  rw [complete_cellsStepped_upperCells hb] at hrun
  obtain ⟨hmem, hstale⟩ := effected_sameMemory hb
  refine ⟨s.upperCells + 2, _, complete (cellsStepped s), _, rendered (complete (cellsStepped s)), _, _, effected s,
    exec_of_acceptable (c := .step) hb hstep _, runsTo_cellsStepped_ok s, complete_busy _,
    exec_render hrender _, hrun, complete_busy _,
    exec_of_acceptable (c := .effect) hb ha _, runsTo_effected ho, complete_busy _,
    ?grid, hmem, hstale, ?status, fun hcalm => ?calm, fun hovf => ?overflow⟩
  case grid =>
    rw [effected_frame, heatAdvanced_frame, rendered_eq (complete_busy _), hframe]
    rfl
  case status =>
    have hstatus : (complete (cellsStepped s)).status = s.status ||| generationOvf s ||| 0x00000100 := by rw [hframe]
    rw [effected_status hb, rendered_eq (complete_busy _), hstatus, BitVec.or_assoc _ 0x00000100]
    rfl
  case calm =>
    rw [← overflowBelow_stepAccepted hk, Bool.not_eq_true] at hcalm
    rw [effected_frame, heatAdvanced_frame, hcalm]
    rfl
  case overflow =>
    rw [← overflowBelow_stepAccepted hk] at hovf
    rw [effected_frame, heatAdvanced_frame, hovf]
    rfl

end Sys2Proof.Machine
end

section
/-! PROOF. The grid window and the palette window: grid accesses on an idle block, and palette accesses busy or idle
(20_memory.md R52, R55; 44_control_and_access.md R146 to R148). -/

namespace Sys2Proof.Machine

open Sys2Proof.Claims

/-! ## Data bytes as numbers -/

/-- Data byte `k` is bits 8k+7 : 8k of the word's value (R52). -/
theorem dataByte_eq_ofNat (d : Word) (k : Nat) : dataByte d k = BitVec.ofNat 8 (d.toNat / 2 ^ (8 * k)) := by
  rw [← Nat.shiftRight_eq_div_pow]
  rfl

/-- A word whose bytes from byte `n` on are 0 fits in `n` bytes (R52). -/
theorem toNat_assemble_lt {f : Nat → Byte} {n : Nat} (h : ∀ k, n ≤ k → k < 4 → f k = 0) :
    (assemble f).toNat < 2 ^ (8 * n) := by
  have hbyte (k : Nat) (hk : n ≤ k) (hlt : k < 4) : (f k).toNat = 0 := by rw [h k hk hlt]; rfl
  have hvalue : (assemble f).toNat =
      (((f 3).toNat * 2 ^ 8 + (f 2).toNat) * 2 ^ 8 + (f 1).toNat) * 2 ^ 8 + (f 0).toNat := by
    simp only [assemble, toNat_append_eq]
  by_cases hn : 4 ≤ n
  · exact (assemble f).isLt.trans_le (Nat.pow_le_pow_right (by decide) (by omega))
  · have h0 := hbyte 0
    have h1 := hbyte 1
    have h2 := hbyte 2
    have h3 := hbyte 3
    interval_cases n <;> omega

theorem widthBytes_of_gridAccess {i n : Nat} {w : Width} (h : gridAccess i n w) : widthBytes w = n := by
  obtain ⟨rfl, rfl⟩ | ⟨rfl, rfl, -⟩ | ⟨rfl, rfl, -⟩ := h <;> rfl

/-! ## The grid window on an idle block -/

/-- Settles O47: the stored cells are those of `read_gridStored`, byte by byte. -/
theorem gridWriteStoresLittleEndian : Obligations.GridWriteStoresLittleEndian := by
  intro s off w n v hb hacc
  have hexec := exec_wrGrid_of_idle v hb off.isLt (legalSized_of_gridAccess hacc)
  rw [BitVec.ofNat_toNat, BitVec.setWidth_eq] at hexec
  refine ⟨_, hexec, rfl, fun k hk hc => ?stored, fun j hj => ?other⟩
  all_goals rw [read_gridStored, widthBytes_of_gridAccess hacc]
  case stored => rw [if_pos (by omega), Nat.add_sub_cancel_left, dataByte_eq_ofNat]
  case other =>
    refine if_neg fun ⟨hlow, hhigh, hc⟩ => ?_
    exact hj (j - off.toNat) (by omega) (by omega) (by omega)

section IdleRead

variable {s : State} (hb : s.busy = false)
include hb

/-- A grid read on an idle block is not refused (R147). -/
theorem gridReadRefused_of_idle (i : Nat) : gridReadRefused i s = false := by
  rw [gridReadRefused, hb, Bool.false_and]

/-- Such a read moves the counter of the free values at most. -/
theorem gridAfterRead_of_idle (n i : Nat) :
    gridAfterRead n i s = if readsUnwritten n i s then s.advanceDraws n else s := by
  rw [gridAfterRead, gridReadRefused_of_idle hb, if_neg Bool.false_ne_true]

/-- A legal grid read on an idle block returns the cells (R147). -/
theorem exec_rdGrid_of_idle {off : BitVec 16} {w : Width} (hl : legalSized off.toNat w = true) :
    exec (.rdGrid off w) s =
      .next { s with reply := .data (gridData (widthBytes w) off.toNat s),
                     draws := (gridAfterRead (widthBytes w) off.toNat s).draws } := by
  rw [exec, execRdGrid, answerRead, if_pos hl, gridReadData, gridReadRefused_of_idle hb, if_neg Bool.false_ne_true,
    gridAfterRead_of_idle hb]
  split <;> rfl

end IdleRead

/-- Byte `k` of a grid read (R52, R147). -/
theorem dataByte_gridData {n i k : Nat} (s : State) (hk : k < n) (hn : n ≤ 4) :
    BitVec.ofNat 8 ((gridData n i s).toNat / 2 ^ (8 * k)) = gridByte s i k := by
  rw [← dataByte_eq_ofNat, gridData, dataByte_assemble _ _ (hk.trans_le hn), gridLane, if_pos hk]

theorem readsUnwritten_of_known {n i : Nat} {s : State}
    (h : ∀ k, k < n → i + k < s.cells → (Memory.read s.grid (i + k)).isSome) : readsUnwritten n i s = false := by
  refine List.any_eq_false.2 fun k hk => ?_
  have hcell := h k (List.mem_range.1 hk)
  simpa [Option.isSome_iff_ne_none] using hcell

/-- Settles O48: byte by byte, the data are `gridByte`, and no other byte of the data lines is driven. -/
theorem gridReadReturnsTheCells : Obligations.GridReadReturnsTheCells := by
  intro s off w n hb hacc
  have hl := legalSized_of_gridAccess hacc
  have ⟨_, hn⟩ := widthBytes_of_legalSized hl
  have hexec := exec_rdGrid_of_idle hb hl
  rw [widthBytes_of_gridAccess hacc] at hexec hn
  refine ⟨_, _, hexec, rfl, ?fits, fun k b hk hc hcell => ?cell, fun k hk hc => ?beyond, fun hknown => ?known⟩
  case fits => exact toNat_assemble_lt fun k hk _ => if_neg (Nat.not_lt.2 hk)
  case cell => rw [dataByte_gridData s hk hn, gridByte, if_pos hc, hcell, Option.getD_some]
  case beyond => rw [dataByte_gridData s hk hn, gridByte, if_neg (Nat.not_lt.2 hc)]
  case known =>
    show (gridAfterRead n off.toNat s).draws = s.draws
    rw [gridAfterRead_of_idle hb, readsUnwritten_of_known hknown, if_neg Bool.false_ne_true]

/-! ## The palette window -/

/-- The window offset of a palette entry, as FAULT_ADDR records it (R148, R163). -/
theorem paletteOffset_setWidth (i : Byte) :
    (0x400 + 4 * i.setWidth 17 : BitVec 17).setWidth 32 = BitVec.ofNat 32 (0x400 + 4 * i.toNat) := by
  bv_omega

/-- A palette read before the palette is valid, on an idle block: an unspecified entry, zero-extended (R148). -/
theorem exec_rdPal_of_invalid {s : State} (i : Byte) (hb : s.busy = false) (hv : s.palValid = false) :
    exec (.rdPal i .w32) s =
      .next { s with reply := .data ((Config.freeHalf s.draws).setWidth 32), draws := s.draws + 1 } := by
  have hexec : exec (.rdPal i .w32) s = .next { palAfterRead i s with reply := .data (palData i s) } := rfl
  rw [hexec, palData, palAfterRead, hb, hv]
  rfl

/-- A palette read while busy: some value, and E_ACC (R148, R166). -/
theorem exec_rdPal_of_busy {s : State} (i : Byte) (hb : s.busy = true) :
    exec (.rdPal i .w32) s =
      .next { s with status := s.status ||| 0x00400000, lastErrOp := 0, lastErrCause := 8,
                     faultAddr := BitVec.ofNat 32 (0x400 + 4 * i.toNat),
                     reply := .data (Config.freeWord s.draws), draws := s.draws + 1 } := by
  have hexec : exec (.rdPal i .w32) s = .next { palAfterRead i s with reply := .data (palData i s) } := rfl
  rw [hexec, palData, palAfterRead, if_pos hb, if_pos hb, ← paletteOffset_setWidth]
  rfl

/-- A key of the palette window with offset bits 1:0 not 0 is misaligned (R55, R74). -/
theorem paletteKey_misaligned (i : Byte) {o : BitVec 2} (ho : o ≠ 0) :
    (0b0_0000001#8 ++ i ++ o).toNat % 0x20000 < 0x800 ∧ (0b0_0000001#8 ++ i ++ o).toNat % 0x20000 % 4 ≠ 0 := by
  have hi := i.isLt
  have hlt := o.isLt
  have hne : o.toNat ≠ 0 := fun h => ho (BitVec.eq_of_toNat_eq h)
  simp only [toNat_append_eq, BitVec.toNat_ofNat]
  omega

/-- Settles O50: the three ways a 32-bit read is answered, and R55's answer to every other access. -/
theorem paletteReadReturnsTheEntry : Obligations.PaletteReadReturnsTheEntry := by
  intro s i w v
  refine ⟨fun p hb hv hp => ?entry, fun hb hv => ⟨_, ?narrow, exec_rdPal_of_invalid i hb hv⟩,
    fun hb => ⟨_, exec_rdPal_of_busy i hb⟩, fun hw => ?width, fun o rest ho ht => ?misaligned, rfl⟩
  case entry => rw [exec_rdPal_of_valid hb hv hp, answered, BitVec.ofNat_toNat]
  case width =>
    obtain ⟨herror, -⟩ := exec_access (.rdPal i w) s
    obtain ⟨hoff, ha⟩ := paletteOffset_aligned i
    refine herror fun hl => hw ?_
    simpa [legalWord] using (legalWord_iff w hoff ha).2 hl
  case misaligned =>
    obtain ⟨hoff, ha⟩ := paletteKey_misaligned i ho
    obtain ⟨herror, -⟩ := hostTurn_access (0b0_0000001#8 ++ i ++ o) w v { s with turns := rest }
    exact (step_host ht).trans (herror (not_legalAccess_of_misaligned hoff ha))
  case narrow =>
    rw [BitVec.toNat_setWidth_of_le (by decide)]
    exact (Config.freeHalf s.draws).isLt

end Sys2Proof.Machine
end

section
/-! PROOF. Exceptions: a refused command and its error record, the interrupt output, the windows while busy, and
that no step stops (60_exceptions.md R161, R162, R166, R170 to R176). -/

namespace Sys2Proof.Machine

open Sys2Proof.Claims

/-! ## No traps -/

theorem takeTurn_next (n : Turn) (s : State) : ∃ t, takeTurn n s = .next t := by
  cases n with
  | host txn =>
    obtain ⟨_, _, -, h⟩ := hostTurn_answersHost txn s
    exact ⟨_, h⟩
  | engine | reset | agentWrite | agentRead | maintain => exact ⟨_, rfl⟩

/-- Settles O30: every turn has a next state, and so has the engine left alone. -/
theorem stepNeverStops : Obligations.StepNeverStops := by
  intro s
  cases hn : s.turns with
  | nil => exact ⟨_, step_nil hn⟩
  | cons n rest =>
    rw [step_cons hn]
    exact takeTurn_next n _

/-! ## Illegal words and commands while busy -/

/-- A word that names no command, written to CMD: E_CMD and cause 1 recorded, nothing else (R75, R161; log 26). -/
theorem exec_wrCmd_of_illegal {v : Word} (h : 16 ≤ v.toNat ∨ 7 ≤ v.toNat % 16) (s : State) :
    exec (.wrCmd .w32 v) s =
      .next { s with status := s.status ||| 0x00010000, lastErrOp := v.setWidth 4, lastErrCause := 1,
                     reply := .done } := by
  rw [exec_wrCmd_illegal (ofWord_of_illegal h), answer_illegal_eq]

/-- Settles O14: an illegal word names no command, and a busy block takes none. -/
theorem illegalOrBusyCommandIsDiscarded : Obligations.IllegalOrBusyCommandIsDiscarded :=
  ⟨fun s _ h => exec_wrCmd_of_illegal h s, fun _ c hb => exec_instr_of_busy c hb,
    ⟨_, exec_wrCmd_of_illegal (.inr (by decide)) State.reset, rfl, rfl⟩⟩

/-! ## Refusal -/

/-- The checks that fail at acceptance, by their error causes (R140). -/
theorem mem_acceptFails {e : ErrorCause} {c : Command} {s : State} :
    e ∈ acceptFails c s ↔ (e = .noInit ∧ missesArray c s) ∨ (e = .depth ∧ wrongDepth c s) ∨
      (e = .align ∧ oddDestination c s) ∨ (e = .div0 ∧ zeroDivider c s) := by
  simp only [acceptFails, List.mem_append, List.mem_ite_nil_right, List.mem_singleton, failsNoInit_iff,
    failsDepth_iff, failsAlign_iff, failsDiv0_iff, or_assoc, and_comm]

/-- The checks that fail at acceptance, by their STATUS bits (R140, R160). -/
theorem any_acceptFails_bit {b : Nat} {c : Command} {s : State} :
    ((acceptFails c s).any fun e => decide (b = e.bit)) = true ↔
      (b = 17 ∧ missesArray c s) ∨ (b = 18 ∧ wrongDepth c s) ∨ (b = 19 ∧ oddDestination c s) ∨
        (b = 20 ∧ zeroDivider c s) := by
  simp only [List.any_eq_true, decide_eq_true_eq, mem_acceptFails, or_and_right, exists_or, and_assoc,
    exists_eq_left]
  simp only [ErrorCause.bit, and_comm]

/-- What holds of every check that fails at acceptance, check by check (R140). -/
theorem forall_mem_acceptFails {p : ErrorCause → Prop} {c : Command} {s : State} :
    (∀ e ∈ acceptFails c s, p e) ↔ (missesArray c s → p .noInit) ∧ (wrongDepth c s → p .depth) ∧
      (oddDestination c s → p .align) ∧ (zeroDivider c s → p .div0) := by
  simp only [mem_acceptFails, or_imp, forall_and, and_imp, forall_eq]

/-- The smallest code of a list belongs to a member, and no member has a smaller one. -/
theorem smallestCode_spec (e : ErrorCause) (rest : List ErrorCause) :
    (∃ f ∈ e :: rest, f.code = smallestCode e rest) ∧
      ∀ f ∈ e :: rest, (smallestCode e rest).toNat ≤ f.code.toNat := by
  induction rest generalizing e with
  | nil => simp [smallestCode]
  | cons g rest ih =>
    rw [smallestCode]
    split
    case isTrue hlt =>
      obtain ⟨⟨f, hf, hcode⟩, hle⟩ := ih g
      have hg := hle g List.mem_cons_self
      exact ⟨⟨f, List.mem_cons_of_mem e hf, hcode⟩, List.forall_mem_cons.2 ⟨by omega, hle⟩⟩
    case isFalse hge =>
      obtain ⟨⟨f, hf, hcode⟩, hle⟩ := ih e
      obtain ⟨he, hrest⟩ := List.forall_mem_cons.1 hle
      refine ⟨⟨f, ?_, hcode⟩, List.forall_mem_cons.2 ⟨he, List.forall_mem_cons.2 ⟨by omega, hrest⟩⟩⟩
      exact List.cons_subset_cons e (List.subset_cons_self g rest) hf

/-- `raise_all` records the smallest of the causes (R162). -/
theorem lastErrCause_raiseAll {e : ErrorCause} {fails : List ErrorCause} (op : BitVec 4) (s : State)
    (he : e ∈ fails) (hmin : ∀ f ∈ fails, e.code.toNat ≤ f.code.toNat) :
    (raiseAll fails op s).lastErrCause = e.code := by
  cases fails with
  | nil => cases he
  | cons g rest =>
    obtain ⟨⟨f, hf, hcode⟩, hle⟩ := smallestCode_spec g rest
    have hlow := hmin f hf
    rw [hcode] at hlow
    exact BitVec.eq_of_toNat_eq (Nat.le_antisymm (hle e he) hlow)

/-- `raise_all` of at least one error records the command's opcode (R162). -/
theorem lastErrOp_raiseAll {fails : List ErrorCause} (h : fails ≠ []) (op : BitVec 4) (s : State) :
    (raiseAll fails op s).lastErrOp = op := by
  cases fails with
  | nil => exact absurd rfl h
  | cons e rest => rfl

/-- A command that an idle block refuses (R140, R162). -/
theorem exec_instr_of_refused {c : Command} {s : State} (hb : s.busy = false) (ha : ¬ acceptable c s) :
    exec c.instr s = .next { raiseAll (acceptFails c s) c.opcode s with reply := .done } := by
  rw [exec_instr, answerCommand, issue, if_neg (Bool.eq_false_iff.1 hb),
    if_neg (ha ∘ (acceptFails_eq_nil_iff c s).1)]

/-- Settles O15: the bits and the smallest cause of `raise_all`, over the checks that fail. -/
theorem refusalSetsEveryFailingBit : Obligations.RefusalSetsEveryFailingBit := by
  refine ⟨fun c s hb ha => ?_, ⟨_, rfl, rfl, rfl⟩⟩
  have hcause {e : ErrorCause} (he : e ∈ acceptFails c s)
      (hmin : ∀ f ∈ acceptFails c s, e.code.toNat ≤ f.code.toNat) :=
    lastErrCause_raiseAll c.opcode s he hmin
  have hop := lastErrOp_raiseAll (ha ∘ (acceptFails_eq_nil_iff c s).1) c.opcode s
  refine ⟨_, exec_instr_of_refused hb ha, ?frame, fun b hlt => ?bits, fun hm => ?noInit, fun hm hd => ?depth,
    fun hm hd ho => ?align, fun hm hd ho => ?div0⟩
  case frame =>
    rw [raiseAll_frame, hop]
  case bits =>
    have hflag := flag_raiseAll (acceptFails c s) c.opcode s b hlt
    rw [← any_acceptFails_bit, ← Bool.or_eq_true]
    exact hflag ▸ Iff.rfl
  case noInit =>
    exact hcause (e := .noInit) (mem_acceptFails.2 (.inl ⟨rfl, hm⟩)) <| forall_mem_acceptFails.2
      ⟨fun _ => by decide, fun _ => by decide, fun _ => by decide, fun _ => by decide⟩
  case depth =>
    exact hcause (e := .depth) (mem_acceptFails.2 (.inr (.inl ⟨rfl, hd⟩))) <| forall_mem_acceptFails.2
      ⟨fun h => absurd h hm, fun _ => by decide, fun _ => by decide, fun _ => by decide⟩
  case align =>
    exact hcause (e := .align) (mem_acceptFails.2 (.inr (.inr (.inl ⟨rfl, ho⟩)))) <| forall_mem_acceptFails.2
      ⟨fun h => absurd h hm, fun h => absurd h hd, fun _ => by decide, fun _ => by decide⟩
  case div0 =>
    have hz : zeroDivider c s := Classical.byContradiction fun hz => ha ⟨hm, hd, ho, hz⟩
    exact hcause (e := .div0) (mem_acceptFails.2 (.inr (.inr (.inr ⟨rfl, hz⟩)))) <| forall_mem_acceptFails.2
      ⟨fun h => absurd h hm, fun h => absurd h hd, fun h => absurd h ho, fun _ => by decide⟩

/-! ## The interrupt output -/

/-- Some bit of the error group is set (R170). -/
theorem errorGroup_ne_zero_iff (s : State) :
    s.status &&& statusErrors ≠ 0 ↔ ∃ b, 16 ≤ b ∧ b ≤ 23 ∧ s.status.getLsbD b = true := by
  have hbit (b : Nat) :
      (s.status &&& statusErrors).getLsbD b = true ↔ 16 ≤ b ∧ b ≤ 23 ∧ s.status.getLsbD b = true := by
    by_cases hlt : b < 32
    · rw [BitVec.getLsbD_and, statusErrors_bit b hlt, Bool.and_eq_true, Bool.and_eq_true, decide_eq_true_eq,
        decide_eq_true_eq, and_comm, and_assoc]
    · rw [BitVec.getLsbD_of_ge _ _ (Nat.not_lt.1 hlt)]
      exact ⟨fun h => absurd h Bool.false_ne_true, fun ⟨_, hu, _⟩ => by omega⟩
  rw [ne_eq, BitVec.ofNat_eq_ofNat, BitVec.zero_iff_eq_false, not_forall]
  exact exists_congr fun b => (Bool.not_eq_false _).to_iff.trans (hbit b)

/-- Settles O44: the two terms of the interrupt output. -/
theorem irqFollowsStatusAndEnables : Obligations.IrqFollowsStatusAndEnables := by
  intro s
  rw [← errorGroup_ne_zero_iff, State.irq, Bool.or_eq_true, Bool.and_eq_true, Bool.and_eq_true, bne_iff_ne]
  rfl

/-- With nothing pending, `irq` is low whatever is enabled (R170). -/
theorem irq_of_nothing_pending {s : State} (h : s.status &&& statusW1C = 0) : s.irq = false := by
  have hclear (b : Nat) (hb : b = 8 ∨ 16 ≤ b ∧ b ≤ 23) : s.status.getLsbD b = false := by
    have hmask : statusW1C.getLsbD b = true := by
      rw [statusW1C_bit b (by omega)]
      simpa using hb
    have hbit := congrArg (BitVec.getLsbD · b) h
    simpa [hmask] using hbit
  rw [← Bool.not_eq_true, irqFollowsStatusAndEnables s]
  rintro (⟨hdone, -⟩ | ⟨⟨b, hl, hu, herror⟩, -⟩)
  · rw [hclear 8 (.inl rfl)] at hdone
    cases hdone
  · rw [hclear b (.inr ⟨hl, hu⟩)] at herror
    cases herror

/-- The bits left pending by a write of STATUS are those written 0 (R28). -/
theorem statusAfterWrite_and_w1c (status v : Word) :
    statusAfterWrite status v &&& statusW1C = status &&& statusW1C &&& ~~~v := by
  rw [statusAfterWrite]
  ext b hb
  simp only [BitVec.getElem_and, BitVec.getElem_not]
  cases status[b] <;> cases v[b] <;> cases statusW1C[b] <;> rfl

theorem exec_wrStatus (v : Word) (s : State) :
    exec (.wrStatus .w32 v) s = .next { s with status := statusAfterWrite s.status v, reply := .done } := rfl

theorem exec_wrIrqEn (v : Word) (s : State) :
    exec (.wrIrqEn .w32 v) s = .next { s with irqEn := v.extractLsb' 0 2, reply := .done } := rfl

/-- Settles O45: the output follows what the write leaves pending, or leaves enabled. -/
theorem acknowledgeAndEnableActAtOnce : Obligations.AcknowledgeAndEnableActAtOnce := by
  refine ⟨fun s v h => ⟨_, exec_wrStatus v s, ?acknowledge⟩, fun s v hd hv => ⟨_, exec_wrIrqEn v s, ?done⟩,
    fun s v b hl hu hs hv => ⟨_, exec_wrIrqEn v s, ?error⟩⟩
  case acknowledge => exact irq_of_nothing_pending ((statusAfterWrite_and_w1c s.status v).trans h)
  all_goals rw [irqFollowsStatusAndEnables]
  case done => exact .inl ⟨hd, by simpa using hv⟩
  case error => exact .inr ⟨⟨b, hl, hu, hs⟩, by simpa using hv⟩

/-! ## The windows while busy -/

section BusyCell

variable {s : State} {off : BitVec 16} {w : Width} (hb : s.busy = true) (hl : legalSized off.toNat w = true)
  (hi : off.toNat < s.cells)
include hb hl hi

/-- A grid write that touches a cell while busy is dropped with E_ACC (R146, R166). -/
theorem exec_wrGrid_of_busy_cell (v : Word) :
    exec (.wrGrid off w v) s =
      .next { raiseAcc (BitVec.ofNat 17 (0x10000 + off.toNat)) s with reply := .done } := by
  rw [exec, execWrGrid, answerWrite, if_pos hl, gridWrite_busy_cell v hb hi]

/-- A grid read that touches a cell while busy: some value, and E_ACC (R147, R166). -/
theorem exec_rdGrid_of_busy_cell :
    exec (.rdGrid off w) s =
      .next { raiseAcc (BitVec.ofNat 17 (0x10000 + off.toNat)) (s.advanceDraws 1) with
              reply := .data (drawData (widthBytes w) off.toNat s) } := by
  have hrefused : gridReadRefused off.toNat s = true := by
    rw [gridReadRefused, hb, decide_eq_true hi, Bool.and_self]
  rw [exec, execRdGrid, answerRead, if_pos hl, gridReadData, if_pos hrefused, gridAfterRead, if_pos hrefused]

end BusyCell

/-- Settles O46: the data of a refused read are `drawData`, whose bytes beyond the grid and beyond the access are
0. -/
theorem busyWindowAccessRaisesAcc : Obligations.BusyWindowAccessRaisesAcc := by
  intro s off w n v i hb
  have hoff : 0x10000 + off.toNat < 0x20000 := by
    have := off.isLt
    omega
  refine ⟨fun hacc hi => ?write, fun hacc hi => ?read, ⟨_, exec_rdPal_of_busy i hb⟩⟩
  all_goals have hl := legalSized_of_gridAccess hacc
  case write => rw [exec_wrGrid_of_busy_cell hb hl hi, raiseAcc_eq _ hoff]
  case read =>
    have ⟨_, hn⟩ := widthBytes_of_legalSized hl
    have hexec := exec_rdGrid_of_busy_cell hb hl hi
    rw [raiseAcc_eq _ hoff, widthBytes_of_gridAccess hacc] at hexec
    rw [widthBytes_of_gridAccess hacc] at hn
    refine ⟨_, hexec, ?fits, fun k hk hc => ?beyond⟩
    case fits => exact toNat_assemble_lt fun k hk _ => if_neg fun ⟨hlt, _⟩ => hk.not_gt hlt
    case beyond =>
      rw [← dataByte_eq_ofNat, drawData, dataByte_assemble _ _ (hk.trans_le hn), drawLane_reserved _ _ _ _ hc]

end Sys2Proof.Machine
end

section
/-! PROOF. The operand registers beside the engine (70_reset_and_hazards.md R196, 10_state.md R43): a command
in progress works from its latches, so what the host writes to PARAM, the DST registers, IRQ_EN and CONV_HSL
passes every turn of the engine by. -/

namespace Sys2Proof.Machine

/-- What the host may write to the registers that R196 names while a command is in progress. -/
structure OperandWrites where
  /-- Written to PARAM (R30). -/
  param : Word
  /-- Written to DST_BASE (R31). -/
  dstBase : Word
  /-- Written to DST_PITCH (R32). -/
  dstPitch : Word
  /-- Written to DST_DEPTH (R33). -/
  dstDepth : Byte
  /-- Written to IRQ_EN (R29). -/
  irqEn : BitVec 2
  /-- Written to CONV_HSL (R36). -/
  convHsl : BitVec 24

/-- `s` after the writes `o`. -/
def withOperands (o : OperandWrites) (s : State) : State :=
  { s with param := o.param, dstBase := o.dstBase, dstPitch := o.dstPitch, dstDepth := o.dstDepth,
           irqEn := o.irqEn, convHsl := o.convHsl }

section EngineTurns

variable (o : OperandWrites) (s : State)

/-! ## The operations of the engine's turns

A test of a turn reads nothing the host wrote, so each turn takes the same branch after the writes, and
`apply_ite` carries the writes into it. -/

theorem storeCells_withOperands (n k i : Nat) (d : Word) :
    storeCells n k i d (withOperands o s) = withOperands o (storeCells n k i d s) := by
  induction n generalizing k i s with
  | zero => rfl
  | succ n ih =>
    rw [storeCells, storeCells, ← ih, apply_ite (withOperands o)]
    rfl

theorem gridWrite_withOperands (n i : Nat) (d : Word) :
    gridWrite n i d (withOperands o s) = withOperands o (gridWrite n i d s) := by
  simp only [gridWrite, storeCells_withOperands, apply_ite (withOperands o)]
  rfl

theorem ownWindowWrite_withOperands (off : Nat) (v : Half) :
    ownWindowWrite off v (withOperands o s) =
      (withOperands o (ownWindowWrite off v s).1, (ownWindowWrite off v s).2) := by
  simp only [ownWindowWrite, gridWrite_withOperands]
  split_ifs <;> rfl

/-- A pixel write has the same answer, and its effect and the host's writes commute (R56). -/
theorem memWrite_withOperands (a : Word) (v : Half) (r : PortResponse) :
    memWrite a v r (withOperands o s) = (withOperands o (memWrite a v r s).1, (memWrite a v r s).2) := by
  have hwindow : (withOperands o s).inWindow a = s.inWindow a := rfl
  cases r with
  | error =>
    rw [memWrite, memWrite, hwindow]
    split <;> rfl
  | ok =>
    rw [memWrite, memWrite, hwindow, ownWindowWrite_withOperands]
    split <;> rfl

/-! ## The engine's turns -/

theorem palTurn_withOperands (i : Nat) : palTurn i (withOperands o s) = withOperands o (palTurn i s) := by
  rw [palTurn, palTurn, apply_ite (withOperands o)]
  rfl

theorem clearTurn_withOperands (i : Nat) : clearTurn i (withOperands o s) = withOperands o (clearTurn i s) := by
  rw [clearTurn, clearTurn, apply_ite (withOperands o)]
  rfl

/-- The multiplier and the divider of a cell are the latched ones (R114). -/
theorem stepTurn_withOperands (i : Nat) : stepTurn i (withOperands o s) = withOperands o (stepTurn i s) := by
  have hovf : (withOperands o s).ovfSeen = s.ovfSeen := rfl
  rw [stepTurn, stepTurn, hovf, apply_ite (withOperands o)]
  cases s.ovfSeen <;> rfl

/-- The address of a pixel is made of the latched base and pitch (R131). -/
theorem blitTurn_withOperands (r : PortResponse) (i : Nat) :
    blitTurn r i (withOperands o s) = withOperands o (blitTurn r i s) := by
  simp only [blitTurn, memWrite_withOperands, apply_ite (withOperands o)]
  rfl

theorem complete_withOperands : complete (withOperands o s) = withOperands o (complete s) := by
  have hop : (withOperands o s).lat.op = s.lat.op := rfl
  rw [complete, complete, markValid, markValid, hop]
  cases s.lat.op <;> rfl

theorem engineTurn_withOperands (r : PortResponse) :
    engineTurn r (withOperands o s) = withOperands o (engineTurn r s) := by
  have hpos : (withOperands o s).pos = s.pos := rfl
  rw [engineTurn, engineTurn, hpos]
  cases s.pos with
  | idle => rfl
  | pal i => exact palTurn_withOperands o s i
  | clear i => exact clearTurn_withOperands o s i
  | step i => exact stepTurn_withOperands o s i
  | blit i => exact blitTurn_withOperands o s r i
  | finish => exact complete_withOperands o s

end EngineTurns

/-- Settles O42: phase by phase, the engine works from its latches, its arrays and the block's parameters. -/
theorem operandWritesDoNotReachTheRunningCommand : Obligations.OperandWritesDoNotReachTheRunningCommand :=
  fun s r v b p d e c => engineTurn_withOperands ⟨v, b, p, d, e, c⟩ s r

end Sys2Proof.Machine
end
